-- ==== Sys2Proof/Word.lean ====
section
/-! DEFINITION. The words of the VT412: bytes, and line time as a 32-bit count (spec 00 Conventions, R36). -/

namespace Sys2Proof

/-- A byte on the line, in flash or on the lamp link. -/
abbrev Byte := BitVec 8

/-- Line time, LT: an unsigned 32-bit count of audio frame periods that wraps (R36). -/
abbrev LineTime := BitVec 32

/-- A jet, light or drive number, 0 to 11. -/
abbrev Jet := Fin 12

end Sys2Proof
end

