-- ==== Sys2Proof/Syntax.lean ====
section
/-! DEFINITION. The commands of the VT412: one constructor for each row of spec/opcode_table.json.
The table gives a row no operand; the operands here are what the step's rule takes from outside the part. -/

namespace Sys2Proof

/-- The four analog inputs (R174): AIN0 to AIN3. -/
inductive AnalogInput where
  | wind | level | pressA | pressB
deriving DecidableEq, Repr

/-- The two manifolds (R134): A for jets 0 to 5, B for jets 6 to 11. -/
inductive Manifold where
  | a | b
deriving DecidableEq, Repr

/-- The ECC verdict of one sector (R54). -/
inductive Verdict where
  | clean | corrected | failed
deriving DecidableEq, Repr

/-- The verdicts of a page's four sectors (R54). -/
structure Verdicts where
  sector0 : Verdict
  sector1 : Verdict
  sector2 : Verdict
  sector3 : Verdict
deriving DecidableEq, Repr

/-- The data bytes of a flash page (R54). -/
def pageBytes : Nat := 2048

/-- The commands: the steps of spec/opcode_table.json, in the table's order, each whole and indivisible. -/
inductive Instr where
  /-- RESET (R189). -/
  | reset
  /-- START_UP_SEQUENCE (R190): the straps STN4 to STN0 as the part samples them. -/
  | startUpSequence (straps : BitVec 5)
  /-- LINE_IDLE_DETECTION (R3). -/
  | lineIdleDetection
  /-- LINE_BUSY (R12): a falling edge on the line. -/
  | lineBusy
  /-- DEFERRAL_EXPIRY (R13). -/
  | deferralExpiry
  /-- ATTEMPT_SUCCEEDED (R14). -/
  | attemptSucceeded
  /-- ATTEMPT_FAILED (R15): the number, from 0, of the bit of the frame that read back differently. -/
  | attemptFailed (bit : Nat)
  /-- BEACON_POINT (R42). -/
  | beaconPoint
  /-- SLEW_ACTION (R47). -/
  | slewAction
  /-- FRAME_BOUNDARY (R36). -/
  | frameBoundary
  /-- START_REACHED (R99). -/
  | startReached
  /-- CONTROL_INSTANT (R39). -/
  | controlInstant
  /-- LAMP_FRAME_DONE (R162). -/
  | lampFrameDone
  /-- PEER_REMOVAL (R27): the station whose record has reached removal age. -/
  | peerRemoval (station : Nat)
  /-- PRIMING_START (R146). -/
  | primingStart (jet : Jet)
  /-- PRIME_END (R147). -/
  | primeEnd (jet : Jet)
  /-- RUN_DOWN_END (R148). -/
  | runDownEnd (jet : Jet)
  /-- SENSOR_SAMPLE (R175): one input and its converted value. -/
  | sensorSample (input : AnalogInput) (raw : BitVec 12)
  /-- WARM_UP_END (R176). -/
  | warmUpEnd
  /-- SECOND_BOUNDARY (R179). -/
  | secondBoundary
  /-- DRY_RUN_DETECTION (R183). -/
  | dryRunDetection (manifold : Manifold)
  /-- ESTOP_ASSERTED (R185): the ESTOP input qualifies ASSERTED. -/
  | estopAsserted
  /-- ESTOP_RELEASED (R184, R185): the ESTOP input qualifies RELEASED. -/
  | estopReleased
  /-- AUX_ASSERTED (R186): the AUX input qualifies ASSERTED. -/
  | auxAsserted
  /-- AUX_RELEASED (R186): the AUX input qualifies RELEASED. -/
  | auxReleased
  /-- DRIVE_FAULT_ASSERTED (R187): input j qualifies ASSERTED. -/
  | driveFaultAsserted (jet : Jet)
  /-- DRIVE_FAULT_RELEASED (R187): input j qualifies RELEASED. -/
  | driveFaultReleased (jet : Jet)
  /-- FLASH_READY (R73). -/
  | flashReady
  /-- FLASH_TIMEOUT (R74). -/
  | flashTimeout
  /-- RETIREMENT (R76): the page's 2,048 data bytes, corrected where the ECC allows, and its verdicts. -/
  | retirement (page : Vector Byte pageBytes) (verdicts : Verdicts)
  /-- TRACK_CUE_TAKEN (R117). -/
  | trackCueTaken
  /-- BYTE_RECEIVED (R2): the levels SL_RX has at the middles of the byte's ten bit times, in order of arrival. Where the
  first is 1 the port reads no other. -/
  | byteReceived (bits : Vector Bool 10)
deriving DecidableEq, Repr

end Sys2Proof
end

