-- ==== Sys2Proof/Config.lean ====
section
/-! DEFINITION. What the spec fixes for every part, and the free values: what the spec leaves open and no proof can see.

The random generator (00 Conventions): the station's own 16-bit generator, seeded at reset from the station number.
"Each draw may be any value within the range the text states." Three opaque constants stand for it (log 3, DESIGN CHOICE). -/

namespace Sys2Proof.Config

/-- FREE VALUE. The generator's seed for a station number (00 Conventions; log 3). -/
opaque generatorSeed : Nat → BitVec 16

/-- FREE VALUE. The generator after one draw (00 Conventions; log 3). -/
opaque generatorNext : BitVec 16 → BitVec 16

/-- FREE VALUE. What a draw gives before it is brought into its range (00 Conventions; log 3). -/
opaque generatorDraw : BitVec 16 → Nat

/-- FREE VALUE. The levels of the interlock pins at the millisecond tick of a number, true for high (R184; log 16):
bit 0 ESTOP, 1 AUX, 2 + j DRIVE_FAULT j. -/
opaque interlockLevels : Nat → BitVec 14

/-- FREE VALUE. The level of SL_TX at an LT in a bit for which R1 states none (log 39). -/
opaque slTxReleased : LineTime → Nat → Bool

/-- FREE VALUE. The level of I2S_SD at an LT in the first bit clock of a half frame, for which R163 states none (log 40). -/
opaque i2sLeadBit : LineTime → Bool → Bool

/-- FREE VALUE. Whether a jet whose pump is RUNNING rises in ARMED. R139 gives such a pump the speed of its height in every
show state, and R129 has a jet that a LIVE cue reaches in ARMED not rise before the show runs (log 37). -/
opaque armedJetsRise : Bool

/-- The largest value of a counter (R196). -/
def counterTop : Nat := 65535

/-- Frame periods in a millisecond (03 3.1). -/
def framesPerMs : Nat := 48

/-- LT counts between control instants (R39), which is also one ramp unit (00 Conventions). -/
def controlCounts : Nat := 480

/-- LT counts in a segment (R61). -/
def segmentCounts : Nat := 48000

/-- Frames in an audio page (R61). -/
def pageFrames : Nat := 500

/-- Audio pages in a segment (R61). -/
def segmentPages : Nat := 96

/-- Index entries in an index page, and cue records in a cue page (R56). -/
def recordsPerPage : Nat := 128

/-- The last flash page (R54). -/
def lastPage : Nat := 262143

end Sys2Proof.Config
end

