-- ==== Sys2Proof/Machine/Bytes.lean ====
section
/-! DEFINITION. Byte order, the CRC-16 and a byte's bits on a line (spec 00 Conventions, R2, R5, 12). Multi-byte fields are
most significant byte first. -/

namespace Sys2Proof.Machine

/-- Byte i of a record, as a number. A byte a list does not hold reads as 0. -/
def byteAt (bytes : List Byte) (i : Nat) : Nat := (bytes.getD i 0#8).toNat

/-- A 2-byte field at byte i, most significant byte first. -/
def field16 (bytes : List Byte) (i : Nat) : Nat := byteAt bytes i * 256 + byteAt bytes (i + 1)

/-- A 3-byte field at byte i. -/
def field24 (bytes : List Byte) (i : Nat) : Nat := field16 bytes i * 256 + byteAt bytes (i + 2)

/-- A 4-byte field at byte i. -/
def field32 (bytes : List Byte) (i : Nat) : Nat := field16 bytes i * 65536 + field16 bytes (i + 2)

/-- Bit b of byte i of a record; bit 0 is the least significant (12). -/
def bitAt (bytes : List Byte) (i b : Nat) : Bool := (bytes.getD i 0#8).getLsbD b

/-- A number as one byte. -/
def bytes8 (n : Nat) : List Byte := [BitVec.ofNat 8 n]

/-- A number as 2 bytes, most significant first. -/
def bytes16 (n : Nat) : List Byte := bytes8 (n / 256) ++ bytes8 n

/-- A number as 3 bytes, most significant first. -/
def bytes24 (n : Nat) : List Byte := bytes8 (n / 65536) ++ bytes16 n

/-- A number as 4 bytes, most significant first. -/
def bytes32 (n : Nat) : List Byte := bytes16 (n / 65536) ++ bytes16 n

/-- One of the eight shifts of R5. -/
def crcShift (value : BitVec 16) : BitVec 16 :=
  if value.msb then (value <<< 1) ^^^ 0x1021#16 else value <<< 1

/-- The eight shifts that follow the combining of a byte (R5). -/
def crcShifts : Nat → BitVec 16 → BitVec 16
  | 0, value => value
  | n + 1, value => crcShifts n (crcShift value)

/-- One byte taken into the running value (R5). -/
def crcByte (value : BitVec 16) (byte : Byte) : BitVec 16 :=
  crcShifts 8 (value ^^^ (byte.setWidth 16 <<< 8))

/-- The CRC-16 of R5. -/
def crc16 (bytes : List Byte) : BitVec 16 := bytes.foldl crcByte 0xFFFF#16

/-- The CRC-16 as the two bytes that are sent (R5). -/
def crcBytes (bytes : List Byte) : List Byte := bytes16 (crc16 bytes).toNat

/-- A byte as its ten bits on a line (R2): start bit 0, eight data bits least significant first, stop bit 1. -/
def lineBits (byte : Byte) : List Bool :=
  false :: (List.range 8).map (fun i => byte.getLsbD i) ++ [true]

/-- The bits of a frame's bytes, back to back (R14, R161). -/
def frameBits (bytes : List Byte) : List Bool := bytes.flatMap lineBits

/-- What the port makes of a byte's bits (R2). -/
inductive Reception where
  /-- The start bit reads 1 at its middle: no byte is begun. -/
  | glitch
  /-- The stop bit reads 0. -/
  | broken
  /-- A byte with a good stop bit. -/
  | stored (byte : Byte)
deriving DecidableEq, Repr

/-- Eight bits in order of arrival as a byte: the least significant comes first (R2). -/
def byteOfBits (bits : List Bool) : Byte := (BitVec.ofBoolListLE bits).setWidth 8

/-- The ten bits of a received byte (R2): the start bit is tested first, then the stop bit; between them stand the data. -/
def receivedByte (bits : Vector Bool 10) : Reception :=
  if bits[0] then .glitch
  else if bits[9] then .stored (byteOfBits ((bits.toList.drop 1).take 8))
  else .broken

end Sys2Proof.Machine
end

