-- ==== Sys2Proof/Machine/Configuration.lean ====
section
/-! DEFINITION. The configuration block (12 12.3), its check (R191, R134, R200) and the default configuration (R192). -/

namespace Sys2Proof.Machine

/-- A point of a jet's curve (R134): height h is reached at speed s. -/
structure CurvePoint where
  speed : Nat
  height : Nat
deriving DecidableEq, Repr

/-- A jet's items (R134). -/
structure JetConfig where
  enable : Bool
  hMax : Nat
  power : Nat
  accel : Nat
  curve : Vector CurvePoint 8
deriving DecidableEq, Repr

/-- A light's items (9.1). -/
structure LightConfig where
  enable : Bool
  binding : Option Jet
deriving DecidableEq, Repr

/-- An analog input's scaling (R175). -/
structure Scaling where
  offset : Int
  gain : Nat
deriving DecidableEq, Repr

/-- The configuration in use (R190, R191). -/
structure Configuration where
  syncGroup : Nat
  basinGroup : Nat
  windGroup : Nat
  feedGroup : Nat
  cueGroups : BitVec 8
  beaconK : Nat
  autoJoin : Bool
  feedLimit : Nat
  wLow : Nat
  wHigh : Nat
  wTrip : Nat
  lLow : Nat
  lHyst : Nat
  pMin : Nat
  sPrime : Nat
  tPrime : Nat
  runDown : Nat
  /-- Warm-up in seconds. -/
  warmUp : Nat
  safeLight : Byte
  audioDelay : Nat
  /-- Active levels, 1 = high: bit 0 ESTOP, 1 AUX, 2 + j DRIVE_FAULT j. -/
  activeHigh : BitVec 14
  /-- Modes, 1 = latching, same bits; the ESTOP bit is ignored. -/
  latching : BitVec 14
  scaling : Vector Scaling 4
  faultMask : BitVec 20
  jets : Vector JetConfig 12
  lights : Vector LightConfig 12
deriving DecidableEq, Repr

/-- The items of a disabled jet: never used (R134). -/
def disabledJet : JetConfig :=
  { enable := false, hMax := 0, power := 0, accel := 20,
    curve := Vector.replicate 8 { speed := 0, height := 0 } }

/-- The default configuration (R192). -/
def defaultConfiguration : Configuration where
  syncGroup := 0
  basinGroup := 0
  windGroup := 0
  feedGroup := 0
  cueGroups := 0b1#8
  beaconK := 6
  autoJoin := false
  feedLimit := 0
  wLow := 60
  wHigh := 120
  wTrip := 160
  lLow := 50
  lHyst := 5
  pMin := 50
  sPrime := 300
  tPrime := 4000
  runDown := 3000
  warmUp := 5
  safeLight := 0#8
  audioDelay := 0
  activeHigh := 0#14
  latching := 0b11111111111101#14
  scaling := #v[⟨0, 601⟩, ⟨0, 1001⟩, ⟨0, 1001⟩, ⟨0, 1001⟩]
  faultMask := BitVec.allOnes 20
  jets := Vector.replicate 12 disabledJet
  lights := Vector.replicate 12 { enable := true, binding := none }

/-- A 2-byte field as a signed number (R200, 12.2: two's complement). -/
def signed16 (bytes : List Byte) (i : Nat) : Int := (BitVec.ofNat 16 (field16 bytes i)).toInt

/-- Jet j's items at byte 64 + 48 j of the block (12.3). -/
def parseJet (block : List Byte) (j : Nat) : JetConfig :=
  let at0 := 64 + 48 * j
  { enable := bitAt block at0 0
    hMax := field16 block (at0 + 2)
    power := field32 block (at0 + 4)
    accel := field16 block (at0 + 8)
    curve := Vector.ofFn fun i : Fin 8 =>
      { speed := field16 block (at0 + 16 + 4 * i.val), height := field16 block (at0 + 18 + 4 * i.val) } }

/-- A light's binding byte: a jet, or none for FFh. Values 12 to 254 fail the check (R200). -/
def parseBinding (b : Nat) : Option Jet := if h : b < 12 then some ⟨b, h⟩ else none

/-- Light i's items at byte 640 + 2 i of the block (12.3). -/
def parseLight (block : List Byte) (i : Nat) : LightConfig :=
  { enable := bitAt block (640 + 2 * i) 0, binding := parseBinding (byteAt block (641 + 2 * i)) }

/-- The fields of a configuration block (12.3). Reserved bytes and bits are not read. -/
def parseConfiguration (block : List Byte) : Configuration where
  syncGroup := byteAt block 0
  basinGroup := byteAt block 1
  windGroup := byteAt block 2
  feedGroup := byteAt block 3
  cueGroups := block.getD 4 0#8
  beaconK := byteAt block 5
  autoJoin := bitAt block 6 0
  feedLimit := field32 block 8
  wLow := field16 block 12
  wHigh := field16 block 14
  wTrip := field16 block 16
  lLow := field16 block 18
  lHyst := field16 block 20
  pMin := field16 block 22
  sPrime := field16 block 24
  tPrime := field16 block 26
  runDown := field16 block 28
  warmUp := byteAt block 30
  safeLight := block.getD 31 0#8
  audioDelay := field16 block 32
  activeHigh := BitVec.ofNat 14 (field16 block 34)
  latching := BitVec.ofNat 14 (field16 block 36)
  scaling := Vector.ofFn fun i : Fin 4 =>
    { offset := signed16 block (38 + 4 * i.val), gain := field16 block (40 + 4 * i.val) }
  faultMask := BitVec.ofNat 20 (field24 block 54)
  jets := Vector.ofFn fun j : Fin 12 => parseJet block j.val
  lights := Vector.ofFn fun i : Fin 12 => parseLight block i.val

/-- Every neighbouring pair of a curve rises in speed and does not fall in height (R134). -/
def curveRises (pts : Vector CurvePoint 8) : Bool :=
  (List.finRange 7).all fun i =>
    pts[i.val].speed < pts[i.val + 1].speed && pts[i.val].height ≤ pts[i.val + 1].height

/-- The configuration check for a jet (R134, R191, R200): a disabled jet is not checked. -/
def JetConfig.ok (j : JetConfig) : Bool :=
  !j.enable ||
    (j.hMax ≤ 4000 && j.power ≤ 200000 && 1 ≤ j.accel && j.accel ≤ 1000 &&
      j.curve.toList.all (fun p => 1 ≤ p.speed && p.speed ≤ 1000 && p.height ≤ 4000) &&
      j.curve[0].height == 0 && curveRises j.curve)

/-- The configuration check over the parsed fields (R191). -/
def Configuration.ok (c : Configuration) : Bool :=
  c.syncGroup ≤ 3 && c.basinGroup ≤ 7 && c.windGroup ≤ 7 && c.feedGroup ≤ 7 &&
  5 ≤ c.beaconK && c.beaconK ≤ 8 &&
  c.wLow < c.wHigh && c.wHigh < c.wTrip && c.wTrip ≤ 600 &&
  c.lLow ≤ 1000 && c.lHyst ≤ 100 && c.lLow + c.lHyst ≤ 1000 &&
  c.pMin ≤ 1000 && 1 ≤ c.sPrime && c.sPrime ≤ 1000 &&
  1000 ≤ c.tPrime && c.tPrime ≤ 60000 && c.runDown ≤ 60000 && c.warmUp ≤ 60 &&
  c.audioDelay ≤ 4800 && c.jets.toList.all JetConfig.ok

/-- Every light's binding byte is FFh or a jet (R200). -/
def bindingsOk (block : List Byte) : Bool :=
  (List.range 12).all fun i =>
    byteAt block (641 + 2 * i) == 255 || byteAt block (641 + 2 * i) < 12

/-- The block's CRC-16 over bytes 0 to 663 stands in bytes 664 and 665 (R57, 12.3). -/
def blockCrcOk (block : List Byte) : Bool :=
  (crc16 (block.take 664)).toNat == field16 block 664

/-- A verdict other than FAILED (R55). -/
def verdictGood : Verdict → Bool
  | .clean => true
  | .corrected => true
  | .failed => false

/-- The four verdicts in sector order. -/
def sectorList (v : Verdicts) : List Verdict := [v.sector0, v.sector1, v.sector2, v.sector3]

/-- The page verdict, the worst of the four, is not FAILED (R54). -/
def pageGood (v : Verdicts) : Bool := (sectorList v).all verdictGood

/-- All four sectors FAILED: a read that timed out (R54, R74). -/
def allFailed : Verdicts := ⟨.failed, .failed, .failed, .failed⟩

/-- The configuration a retired page 0 gives, if it passes (R57, R190): sectors 0 and 1, the CRC-16 and every field. -/
def takeConfiguration (page : List Byte) (v : Verdicts) : Option Configuration :=
  if verdictGood v.sector0 && verdictGood v.sector1 && blockCrcOk page && bindingsOk page &&
      (parseConfiguration page).ok
  then some (parseConfiguration page) else none

/-- H_max as used: at most h_7 (R134). -/
def JetConfig.topHeight (j : JetConfig) : Nat := min j.hMax j.curve[7].height

/-- S_MIN, the lowest speed at which the pump gives a jet (R134). -/
def JetConfig.sMin (j : JetConfig) : Nat := j.curve[0].speed

/-- The AUX input is in latching mode (10.5). -/
def Configuration.auxLatching (c : Configuration) : Bool := c.latching.getLsbD 1

/-- DRIVE_FAULT j is in latching mode (10.5). -/
def Configuration.driveLatching (c : Configuration) (j : Jet) : Bool := c.latching.getLsbD (2 + j.val)

end Sys2Proof.Machine
end

