-- ==== Sys2Proof/Machine/State.lean ====
section
/-! DEFINITION. The state of the VT412, block by block, as plain data, and its value right after reset.
Each field's rule and reset value stand in INVENTORY.md under "State". -/

namespace Sys2Proof.Machine

/-! ### Codes shared by several blocks (12.1) -/

/-- Show states (R94). -/
inductive ShowState where
  | idle | arming | armed | running | ending | safe
deriving DecidableEq, Repr

/-- Clock states (R51). -/
inductive ClockState where
  | free | acquiring | locked
deriving DecidableEq, Repr

/-- Pump states (R136). -/
inductive PumpState where
  | disabled | parked | priming | running | parking | faulted
deriving DecidableEq, Repr

/-- The operation of a refusal record (R96, 12.1). -/
inductive RefusedOp where
  | arm | start | stop | other | cue
deriving DecidableEq, Repr

/-- The fault sources (R193), numbered 0 to 19 in this order (12.1). -/
inductive FaultSource where
  | estop | aux
  | dryA | dryB | driveFault | levelLowSeen | pressSensor | levelSensor
  | windTrip | windSensor
  | armFail | indexFail | flashTimeout | eccFail | pageId | audioUnderrun | cueLost
  | dupStation | txFail | configDefault
deriving DecidableEq, Repr

/-- Where the part stands between reset and running (R189, R190). -/
inductive Phase where
  /-- A reset source is active. -/
  | inReset
  /-- The start-up sequence runs: straps sampled, page 0 being read. -/
  | startUp
  /-- After the end of the start-up sequence. -/
  | running
deriving DecidableEq, Repr

/-- The kind of advance LT makes at a frame boundary (R38). -/
inductive Advance where
  | ordinary | drop | repeated | step
deriving DecidableEq, Repr

/-! ### Line Port -/

/-- The port's view of the line (R3). -/
inductive LineView where
  | busy | idle
deriving DecidableEq, Repr

/-- The receive assembler (R2, R4). -/
structure Receiver where
  /-- Line activity is assembled: clear after reset and around the part's own attempts until an idle detection. -/
  assembling : Bool
  inByte : Bool
  /-- The first 102 bytes, in order of arrival. -/
  bytes : List Byte
  /-- All bytes received, stored or not. -/
  count : Nat
  broken : Bool
  /-- LT at the falling edge of the first byte's start bit. -/
  capture : Option LineTime
  /-- The corrections made to own LT since that capture (R25). -/
  correction : BitVec 32
deriving DecidableEq, Repr

/-- The two transmit slots (R9). -/
inductive SlotId where
  | beacon | status
deriving DecidableEq, Repr

/-- Where a transmit slot stands (R9). -/
inductive SlotUse where
  | empty | waiting | sending
deriving DecidableEq, Repr

/-- A transmit slot: its frame's payload and failed-attempt count a (R9). -/
structure TxSlot where
  use : SlotUse
  payload : List Byte
  attempts : Nat
deriving DecidableEq, Repr

/-- The transmitter (1.5): QUIET, DEFERRING with the wait it drew in bit times, or SENDING an attempt's bytes. -/
inductive Transmitter where
  | quiet
  | deferring (wait : Nat)
  /-- The slot, the LT latched at the start mark, and the frame as sent (R14). -/
  | sending (slot : SlotId) (latched : LineTime) (frame : List Byte)
deriving DecidableEq, Repr

/-- The Line Port (R1 to R19). -/
structure LinePort where
  view : LineView
  rx : Receiver
  tx : Transmitter
  /-- How many values r is drawn from: 32 for a deferral, the backoff range of R16 after a failed attempt. -/
  drawRange : Nat
  beacon : TxSlot
  status : TxSlot
  buildPending : Bool
  giveUps : Nat
  sentSinceTxFail : Bool
deriving DecidableEq, Repr

/-! ### Peer Table -/

/-- A peer record (2.1). An absent show or clock state is "unknown" (R23). -/
structure PeerRecord where
  station : Nat
  /-- Milliseconds since the beacon that last wrote the record; 20,001 waits for PEER_REMOVAL (R26, R27). -/
  age : Nat
  /-- The sender's LT less the own, as a signed 32-bit value (R24). -/
  offset : BitVec 32
  sampleNew : Bool
  showNumber : Option Nat
  showState : Option ShowState
  startLt : LineTime
  clockState : Option ClockState
  request : Nat
  windHeld : Nat
  levelLow : Bool
  syncGroup : Nat
  basinGroup : Nat
  windGroup : Nat
  feedGroup : Nat
deriving DecidableEq, Repr

/-! ### Line Time Unit -/

/-- The Line Time Unit (R36 to R53). -/
structure LineTimeUnit where
  lt : LineTime
  /-- N, the next-control value (R39). -/
  nextControl : LineTime
  /-- The advance a slew action or a step has already made at the present frame boundary (log 5). -/
  made : Option Advance
  clock : ClockState
  near : Nat
  emptyCount : Nat
  /-- The last m, a signed 32-bit value (R53). -/
  lastM : BitVec 32
  /-- The pending correction (R45). -/
  correction : Int
  /-- The rate of the pending correction is fast (R46). -/
  fast : Bool
  spacing : Nat
  /-- Milliseconds to the next beacon point; absent before the schedule starts (R41). -/
  beaconTimer : Option Nat
deriving DecidableEq, Repr

/-! ### Show Controller -/

/-- The Show Controller (R94). A value without its valid mark is absent. -/
structure ShowController where
  state : ShowState
  number : Option Nat
  startLt : Option LineTime
  armStep : Nat
  fadeEnd : Option LineTime
  join : Option (Nat × LineTime)
  refusal : Option (RefusedOp × ShowState)
deriving DecidableEq, Repr

/-! ### Flash Stream Engine and show media -/

/-- The purpose of a request (R71). -/
inductive Purpose where
  | config | directory | header | index | audio | cue
deriving DecidableEq, Repr

/-- The two streams (R84). -/
inductive StreamId where
  | audio | cue
deriving DecidableEq, Repr

/-- The kind of a request (R71). -/
inductive RequestKind where
  | demand | prefetch
deriving DecidableEq, Repr

/-- The state of an occupied entry (R71). DONE is passed through inside the event that retires the entry. -/
inductive EntryState where
  | waiting | loading | transfer | done
deriving DecidableEq, Repr

/-- An occupied request-queue entry (R71). Its age is its place in the queue, oldest first. -/
structure QueueEntry where
  page : Nat
  purpose : Purpose
  kind : RequestKind
  stream : Option StreamId
  state : EntryState
  discard : Bool
  slot : Fin 16
deriving DecidableEq, Repr

/-- A page as a slot holds it (R77). The bytes of a read that timed out are absent; its sectors are FAILED. -/
structure PageContent where
  data : List Byte
  verdicts : Verdicts
deriving DecidableEq, Repr

/-- A page slot (R77). -/
inductive Slot where
  | free
  | reserved (page : Nat) (stream : Option StreamId)
  | filled (page : Nat) (stream : Option StreamId) (content : PageContent) (prefetched : Bool)
  | inUse (page : Nat) (stream : Option StreamId) (content : PageContent) (prefetched : Bool)
deriving DecidableEq, Repr

/-- An index entry (R63, 12.3). -/
structure IndexEntry where
  firstAudio : Nat
  firstCuePage : Nat
  firstCueRecord : Nat
  keyPresent : Bool
  last : Bool
  cueCount : Nat
deriving DecidableEq, Repr

/-- A segment record: a copy of an index entry with its segment number (R63, R84). -/
structure SegmentRecord where
  segment : Nat
  entry : IndexEntry
deriving DecidableEq, Repr

/-- The page a reader is on: its place and its flash page (R84). For CUE the index counts the run's pages. -/
structure ReaderPage where
  segment : Nat
  index : Nat
  flashPage : Nat
deriving DecidableEq, Repr

/-- A stream record (R84). -/
structure StreamRecord where
  on : Bool
  current : Option SegmentRecord
  next : Option SegmentRecord
  page : Option ReaderPage
  depth : Nat
  pendingDemand : Option Nat
  /-- The stream takes no further segment record: end of show, or a failed lookup (R66, R69; log 7). -/
  stopped : Bool
  /-- The early demand of the current page has been made (R92; AUDIO only). -/
  early : Bool
deriving DecidableEq, Repr

/-- The CUE stream reader (R88, R106, R119). -/
structure CueReader where
  /-- The record, counted within the segment's run; the run's length once the run is read. -/
  readPoint : Nat
  retry : Bool
  /-- The seek position while in catch-up. -/
  catchUp : Option Int
  /-- The lost page while the reader passes over segments that begin in it. -/
  lostPage : Option Nat
deriving DecidableEq, Repr

/-- Who made a lookup (R66). -/
inductive Looker where
  | arming
  | stream (id : StreamId)
deriving DecidableEq, Repr

/-- What a lookup is for: a start at a position (R85), the next segment (R90), a crossing (R91), or index page 0 (R103). -/
inductive LookupUse where
  | start (position : Nat)
  | next
  | crossing
  | arming
deriving DecidableEq, Repr

/-- A waiting lookup (R66). -/
structure Lookup where
  who : Looker
  segment : Nat
  use : LookupUse
deriving DecidableEq, Repr

/-- Who presents a demand (R79, R80). -/
inductive Requester where
  | startUp
  | arming (purpose : Purpose)
  | index (number : Nat)
  | stream (id : StreamId)
deriving DecidableEq, Repr

/-- A held index page (R65). -/
structure CachePage where
  number : Nat
  entries : List IndexEntry
deriving DecidableEq, Repr

/-- The show description (R60). -/
structure ShowDescription where
  number : Nat
  segments : Nat
  indexPages : Nat
  firstIndex : Nat
deriving DecidableEq, Repr

/-- The Flash Stream Engine with the Show Index Cache (R60 to R93). -/
structure FlashEngine where
  /-- Oldest first. -/
  queue : List QueueEntry
  slots : Vector Slot 16
  portBusy : Bool
  /-- The 5 ms read timer (R74). -/
  timer : Option Nat
  /-- A slot became FREE in the event in hand (R80; log 6). -/
  slotFreed : Bool
  /-- Who had a demand rejected in the event in hand: it is not presented again in that event (R80; log 6). -/
  heldNow : List Requester
  audio : StreamRecord
  cue : StreamRecord
  reader : CueReader
  /-- The ARMING sequence's pending demand (R80; log 8). -/
  armDemand : Option (Purpose × Nat)
  /-- Held index pages, earliest arrival first. -/
  cache : List CachePage
  /-- Index page numbers with the failure mark set. -/
  failMarks : List Nat
  /-- Waiting lookups, in the order they were made. -/
  lookups : List Lookup
  /-- Index page numbers with a pending demand (R80). -/
  indexDemands : List Nat
  description : Option ShowDescription
deriving DecidableEq, Repr

/-! ### Cue Queue and Channel Contexts -/

/-- Where a cue came from (R115). -/
inductive CueSource where
  | track | live
deriving DecidableEq, Repr

/-- A light's three components. -/
structure Rgb where
  r : Nat
  g : Nat
  b : Nat
deriving DecidableEq, Repr

/-- A cue's kind with its target (R115, R118). -/
inductive CueKind where
  | jet (height : Nat)
  | light (colour : Rgb)
  | gain (gain : Nat)
  | release
  | ending
deriving DecidableEq, Repr

/-- A Cue Queue entry (R115). -/
structure CueEntry where
  due : LineTime
  source : CueSource
  kind : CueKind
  mask : BitVec 12
  ramp : Nat
  arrival : Nat
deriving DecidableEq, Repr

/-- The Cue Queue (R115, R116), head first. -/
structure CueQueue where
  entries : List CueEntry
  nextArrival : Nat
deriving DecidableEq, Repr

/-- A layer: a ramp from v0 at t0 to v1 at t1 (R126). -/
structure Layer (α : Type) where
  v0 : α
  v1 : α
  t0 : LineTime
  t1 : LineTime
deriving DecidableEq, Repr

/-- A channel context: a TRACK layer and an optional LIVE layer (R126). -/
structure Context (α : Type) where
  track : Layer α
  live : Option (Layer α)
deriving DecidableEq, Repr

/-- The twenty-five contexts (R126). -/
structure Contexts where
  jets : Vector (Context Nat) 12
  lights : Vector (Context Rgb) 12
  gain : Context Nat
deriving DecidableEq, Repr

/-! ### Jet Drive Unit -/

/-- A pump record (R136). -/
structure Pump where
  state : PumpState
  sReq : Nat
  sB : Nat
  sOut : Nat
  primeTimer : Nat
  runDownTimer : Nat
  /-- Fault cause DRIVE. -/
  drive : Bool
  /-- Fault cause DRY. -/
  dry : Bool
deriving DecidableEq, Repr

/-- The park-cause set (R136). -/
structure ParkCauses where
  wind : Bool
  level : Bool
  aux : Bool
  ending : Bool
deriving DecidableEq, Repr

/-- The Jet Drive Unit (R136). A timer that is stopped at 0 is absent. -/
structure JetDrive where
  pumps : Vector Pump 12
  request : Nat
  total : Nat
  k : Nat
  c : Nat
  causes : ParkCauses
  primeReady : Option Nat
  windResume : Option Nat
  levelResume : Option Nat
deriving DecidableEq, Repr

/-! ### Lamp Output and Audio Output Unit -/

/-- The Lamp Output (R157). Slots 3 i, 3 i + 1 and 3 i + 2 are light i's triple. -/
structure LampOutput where
  slots : Vector Rgb 12
  speeds : Vector Nat 12
  due : Bool
  sending : Option (List Byte)
  heldBack : Bool
deriving DecidableEq, Repr

/-- The opening record: which sectors of the current page are silenced (R168). -/
structure Opening where
  sector0 : Bool
  sector1 : Bool
  sector2 : Bool
  sector3 : Bool
deriving DecidableEq, Repr

/-- The Audio Output Unit (R163). -/
structure AudioUnit where
  run : Nat
  opening : Option Opening
  /-- The frame sent to I2S in the present period. -/
  left : BitVec 16
  right : BitVec 16
  /-- The kind of advance last handed over (R38). -/
  advance : Advance
deriving DecidableEq, Repr

/-! ### Sensor Monitor and Interlock Inputs -/

/-- The health of an analog input (R174). -/
inductive Health where
  | notReady | ready | failed
deriving DecidableEq, Repr

/-- An analog input's record (R174). -/
structure InputRecord where
  raw : BitVec 12
  scaled : Nat
  health : Health
  bad : Nat
  good : Nat
deriving DecidableEq, Repr

/-- One value for each analog input. -/
structure PerInput (α : Type) where
  wind : α
  level : α
  pressA : α
  pressB : α
deriving DecidableEq, Repr

/-- The Sensor Monitor (R174). -/
structure SensorMonitor where
  inputs : PerInput InputRecord
  /-- The input's 10 ms sample is due (R175; log 4). -/
  due : PerInput Bool
  /-- Milliseconds into the present second, counted from the end of start-up. -/
  ms : Nat
  /-- A second boundary is due (R179; log 4). -/
  secondDue : Bool
  /-- Milliseconds of warm-up left (R176). -/
  warmUp : Option Nat
  filtered : Nat
  bins : Vector Nat 10
  currentBin : Fin 10
  levelLow : Bool
  lowTimer : Option Nat
  highTimer : Option Nat
  dryA : Option Nat
  dryB : Option Nat
deriving DecidableEq, Repr

/-- The Interlock Inputs (R184 to R187): a qualified state is true while ASSERTED. The fourteen inputs are numbered as
the configuration's active levels are: 0 ESTOP, 1 AUX, 2 + j DRIVE_FAULT j. -/
structure Interlocks where
  estop : Bool
  aux : Bool
  drive : Vector Bool 12
  /-- The inputs found at their active level at the last tick; absent before the first tick that judges (R184). -/
  seen : Option (Vector Bool 14)
  /-- The input's qualified state is due to change (R184; log 16). -/
  due : Vector Bool 14
  estopTrip : Bool
  auxTrip : Bool
  driveTrips : Vector Bool 12
deriving DecidableEq, Repr

/-! ### Fault Register -/

/-- The fault sources, bit n for source n, and the DRIVE_FAULT pump mask (R193). -/
structure FaultRegister where
  sources : BitVec 20
  pumpMask : BitVec 12
deriving DecidableEq, Repr

/-- The fifteen counters (R196), each 0 to 65,535. -/
structure Counters where
  rxCrc : Nat
  rxUnknown : Nat
  rxFormat : Nat
  txCollision : Nat
  txGiveUp : Nat
  txReplaced : Nat
  peerOverflow : Nat
  cueReject : Nat
  cueStale : Nat
  cueMalformed : Nat
  demandReject : Nat
  eccCorrected : Nat
  eccFailed : Nat
  underrunFrames : Nat
  refused : Nat
deriving DecidableEq, Repr

/-! ### The whole part -/

/-- The state of the VT412 and the queue of the commands that wait for it. -/
structure State where
  pending : List Instr
  phase : Phase
  station : Nat
  /-- The DRY_STATION condition (R192). -/
  dryStation : Bool
  config : Configuration
  /-- The 16-bit random generator (00 Conventions; log 3). -/
  generator : BitVec 16
  /-- Frame periods since the last millisecond tick (log 4). -/
  framePhase : Nat
  /-- Millisecond ticks the part has had; RESET leaves the count: the number of the next reading of the interlock pins
  (log 16). -/
  ticks : Nat
  line : LinePort
  peers : List PeerRecord
  ltu : LineTimeUnit
  ctl : ShowController
  flash : FlashEngine
  cues : CueQueue
  ctx : Contexts
  jets : JetDrive
  lamp : LampOutput
  audio : AudioUnit
  sensors : SensorMonitor
  locks : Interlocks
  faults : FaultRegister
  counters : Counters
deriving DecidableEq, Repr

/-- Why the machine stops with a fault: never. A fault of the part is a fault source in State (R193),
and no step of the table stops it, so this type has no constructor. -/
inductive Fault where
deriving DecidableEq, Repr

/-- Why a command is refused. -/
inductive Refusal where
  /-- Raised by exec's arms for a command without a meaning: none. Safe. -/
  | notModelled (mnemonic : String)
deriving DecidableEq, Repr

/-! ### Reset -/

/-- A layer at rest on a value (R126). -/
def Layer.rest {α : Type} (v : α) (t : LineTime) : Layer α := { v0 := v, v1 := v, t0 := t, t1 := t }

/-- A context at rest on a value with no LIVE layer (R126). -/
def Context.rest {α : Type} (v : α) (t : LineTime) : Context α := { track := Layer.rest v t, live := none }

/-- An empty transmit slot (R9). -/
def TxSlot.emptySlot : TxSlot := { use := .empty, payload := [], attempts := 0 }

/-- An assembler with no byte (R4). -/
def Receiver.cleared (assembling : Bool) : Receiver :=
  { assembling := assembling, inByte := false, bytes := [], count := 0, broken := false,
    capture := none, correction := 0#32 }

/-- A stream that is OFF (R84). -/
def StreamRecord.off : StreamRecord :=
  { on := false, current := none, next := none, page := none, depth := 2, pendingDemand := none,
    stopped := false, early := false }

/-- The cue reader with no place (R84, R88). -/
def CueReader.cleared : CueReader := { readPoint := 0, retry := false, catchUp := none, lostPage := none }

/-- A pump at the start, in a given state (R136). -/
def Pump.start (state : PumpState) : Pump :=
  { state := state, sReq := 0, sB := 0, sOut := 0, primeTimer := 0, runDownTimer := 0,
    drive := false, dry := false }

/-- An analog input's record after reset (R174). -/
def InputRecord.start : InputRecord := { raw := 0#12, scaled := 0, health := .notReady, bad := 0, good := 0 }

/-- Every counter at 0 (R196). -/
def Counters.zero : Counters :=
  { rxCrc := 0, rxUnknown := 0, rxFormat := 0, txCollision := 0, txGiveUp := 0, txReplaced := 0,
    peerOverflow := 0, cueReject := 0, cueStale := 0, cueMalformed := 0, demandReject := 0,
    eccCorrected := 0, eccFailed := 0, underrunFrames := 0, refused := 0 }

/-- The part held in reset (R189): every block at its reset values, and no command waiting. -/
def State.reset : State where
  pending := []
  phase := .inReset
  station := 0
  dryStation := false
  config := defaultConfiguration
  generator := 0#16
  framePhase := 1
  ticks := 0
  line := { view := .busy, rx := Receiver.cleared false, tx := .quiet, drawRange := 32,
            beacon := TxSlot.emptySlot, status := TxSlot.emptySlot, buildPending := false,
            giveUps := 0, sentSinceTxFail := false }
  peers := []
  ltu := { lt := 0#32, nextControl := 480#32, made := none, clock := .free, near := 0, emptyCount := 0,
           lastM := 0#32, correction := 0, fast := false, spacing := 0, beaconTimer := none }
  ctl := { state := .idle, number := none, startLt := none, armStep := 1, fadeEnd := none,
           join := none, refusal := none }
  flash := { queue := [], slots := Vector.replicate 16 .free, portBusy := false, timer := none,
             slotFreed := false, heldNow := [], audio := StreamRecord.off, cue := StreamRecord.off,
             reader := CueReader.cleared, armDemand := none, cache := [], failMarks := [],
             lookups := [], indexDemands := [], description := none }
  cues := { entries := [], nextArrival := 0 }
  ctx := { jets := Vector.replicate 12 (Context.rest 0 0#32),
           lights := Vector.replicate 12 (Context.rest ⟨0, 0, 0⟩ 0#32),
           gain := Context.rest 256 0#32 }
  jets := { pumps := Vector.replicate 12 (Pump.start .disabled), request := 0, total := 0, k := 1000, c := 1000,
            causes := { wind := false, level := false, aux := false, ending := true },
            primeReady := none, windResume := none, levelResume := none }
  lamp := { slots := Vector.replicate 12 ⟨0, 0, 0⟩, speeds := Vector.replicate 12 0, due := false,
            sending := none, heldBack := false }
  audio := { run := 0, opening := none, left := 0#16, right := 0#16, advance := .ordinary }
  sensors := { inputs := ⟨InputRecord.start, InputRecord.start, InputRecord.start, InputRecord.start⟩,
               due := ⟨false, false, false, false⟩, ms := 0, secondDue := false, warmUp := none,
               filtered := 0, bins := Vector.replicate 10 0, currentBin := 0, levelLow := false,
               lowTimer := none, highTimer := none, dryA := none, dryB := none }
  locks := { estop := false, aux := false, drive := Vector.replicate 12 false,
             seen := none, due := Vector.replicate 14 false, estopTrip := false, auxTrip := false, driveTrips := Vector.replicate 12 false }
  faults := { sources := 0#20, pumpMask := 0#12 }
  counters := Counters.zero

end Sys2Proof.Machine
end

