-- ==== Sys2Proof/Machine/Time.lean ====
section
/-! DEFINITION. Comparing line times (R37) and bounding counts. -/

namespace Sys2Proof.Machine

/-- The signed 32-bit difference a - b of two LT values (R37). -/
def ltDiff (a b : LineTime) : Int := (a - b).toInt

/-- LT a is at or after b (R37). -/
def atOrAfter (a b : LineTime) : Bool := decide (0 ≤ ltDiff a b)

/-- LT a is after b: its signed difference is above 0 (R37). -/
def isAfter (a b : LineTime) : Bool := decide (0 < ltDiff a b)

/-- An LT value moved by a signed count, modulo 2^32 (R36). -/
def ltAdd (a : LineTime) (n : Int) : LineTime := a + BitVec.ofInt 32 n

/-- The smallest multiple of 480 numerically greater than an LT, or 0 if there is none below 2^32 (R39). -/
def nextControlAfter (lt : LineTime) : LineTime :=
  let n := (lt.toNat / Config.controlCounts + 1) * Config.controlCounts
  if n < 2 ^ 32 then BitVec.ofNat 32 n else 0#32

/-- A counter one higher, holding at 65,535 (R196). -/
def bump (n : Nat) : Nat := min (n + 1) Config.counterTop

/-- A counter raised by k, holding at 65,535 (R75, R196). -/
def bumpBy (k n : Nat) : Nat := min (n + k) Config.counterTop

/-- A running timer one millisecond on, holding at its top; a stopped timer stays stopped. -/
def timerTick (top : Nat) : Option Nat → Option Nat
  | none => none
  | some t => some (min (t + 1) top)

/-- A timer shows at least n ms. A stopped timer shows nothing. -/
def timerShows (n : Nat) : Option Nat → Bool
  | none => false
  | some t => n ≤ t

/-- A value brought into low to high. -/
def clampInt (low high v : Int) : Int := max low (min v high)

end Sys2Proof.Machine
end

