-- ==== Sys2Proof/Machine/Operands.lean ====
section
/-! DEFINITION. The records of flash and of frames as the part takes them (12.3, 12.4, R118, R199, R200):
cue records, directory entries, show headers, index entries, audio page headers. -/

namespace Sys2Proof.Machine

/-! ### Codes (12.1) -/

/-- The code of a show state. -/
def showCode : ShowState → Nat
  | .idle => 0
  | .arming => 1
  | .armed => 2
  | .running => 3
  | .ending => 4
  | .safe => 5

/-- The show state a code names (R23). -/
def showOfCode : Nat → Option ShowState
  | 0 => some .idle
  | 1 => some .arming
  | 2 => some .armed
  | 3 => some .running
  | 4 => some .ending
  | 5 => some .safe
  | _ => none

/-- The code of a clock state. -/
def clockCode : ClockState → Nat
  | .free => 0
  | .acquiring => 1
  | .locked => 2

/-- The clock state a code names (R23). -/
def clockOfCode : Nat → Option ClockState
  | 0 => some .free
  | 1 => some .acquiring
  | 2 => some .locked
  | _ => none

/-- The code of a pump state. -/
def pumpCode : PumpState → Nat
  | .disabled => 0
  | .parked => 1
  | .priming => 2
  | .running => 3
  | .parking => 4
  | .faulted => 5

/-- The code of a refused operation; 0 stands for no record. -/
def opCode : RefusedOp → Nat
  | .arm => 1
  | .start => 2
  | .stop => 3
  | .other => 4
  | .cue => 5

/-! ### Cue records (12.4) -/

/-- A cue record as decoded and clamped (R118). -/
structure CueRecord where
  due : LineTime
  kind : CueKind
  mask : BitVec 12
  ramp : Nat
  key : Bool
deriving DecidableEq, Repr

/-- The kind and target of a record, clamped; absent for an unknown kind (R118). -/
def decodeKind (record : List Byte) : Option CueKind :=
  match byteAt record 4 % 16 with
  | 1 => some (.jet (min (field16 record 10) 4000))
  | 2 => some (.light ⟨byteAt record 10, byteAt record 11, byteAt record 12⟩)
  | 3 => some (.gain (min (field16 record 10) 256))
  | 4 => some .release
  | 5 => some .ending
  | _ => none

/-- The due field of a cue record. -/
def recordDue (record : List Byte) : LineTime := BitVec.ofNat 32 (field32 record 0)

/-- A cue record decoded (R118); absent for an unknown kind. Reserved bits are not read. -/
def decodeCue (record : List Byte) : Option CueRecord :=
  (decodeKind record).map fun kind =>
    { due := recordDue record
      kind := kind
      mask := BitVec.ofNat 12 (field16 record 5)
      ramp := min (field16 record 8) 6000
      key := bitAt record 4 7 }

/-- Record r of a page of 16-byte records (12.3, 12.4). -/
def record16 (page : List Byte) (r : Nat) : List Byte := (page.drop (16 * r)).take 16

/-! ### Show media (R58 to R63) -/

/-- A page address a record may name for a header, index or cue page (R58, R59, R63). -/
def pageOk (p : Nat) : Bool := 2 ≤ p && p ≤ Config.lastPage

/-- The header page of show n's directory entry, if the entry is usable (R58). -/
def directoryEntry (page : PageContent) (n : Nat) : Option Nat :=
  let header := field24 page.data (8 * n)
  if verdictGood page.verdicts.sector0 && bitAt page.data (8 * n + 3) 0 && pageOk header
  then some header else none

/-- A segment count's index pages: divided by 128, rounded up (R59). -/
def indexPagesFor (segments : Nat) : Nat := (segments + 127) / Config.recordsPerPage

/-- The show description of an accepted header (R59, R60). -/
def headerDescription (page : PageContent) (n : Nat) : Option ShowDescription :=
  let d : ShowDescription :=
    { number := n, segments := field16 page.data 4, indexPages := byteAt page.data 6,
      firstIndex := field24 page.data 8 }
  if verdictGood page.verdicts.sector0 && field16 page.data 0 == 0x5654 && byteAt page.data 2 == n &&
      byteAt page.data 3 == 1 && (crc16 (page.data.take 30)).toNat == field16 page.data 30 &&
      1 ≤ d.segments && d.segments ≤ 1800 && d.indexPages == indexPagesFor d.segments &&
      pageOk d.firstIndex && d.firstIndex + d.indexPages - 1 ≤ Config.lastPage
  then some d else none

/-- Index entry e of an index page (12.3). -/
def parseIndexEntry (page : List Byte) (e : Nat) : IndexEntry :=
  let r := record16 page e
  { firstAudio := field24 r 0, firstCuePage := field24 r 3, firstCueRecord := byteAt r 6,
    keyPresent := bitAt r 7 0, last := bitAt r 7 1, cueCount := field16 r 8 }

/-- The 128 entries of an index page (R67). -/
def parseIndexPage (page : List Byte) : List IndexEntry :=
  (List.range Config.recordsPerPage).map (parseIndexEntry page)

/-- An index entry is good for segment s of a show of S segments (R63). -/
def entryGood (s segments : Nat) (e : IndexEntry) : Bool :=
  2 ≤ e.firstAudio && e.firstAudio ≤ 262048 && e.firstCueRecord ≤ 127 &&
  (e.cueCount == 0 ||
    (pageOk e.firstCuePage &&
      e.firstCuePage + (e.firstCueRecord + e.cueCount - 1) / Config.recordsPerPage ≤ Config.lastPage)) &&
  (e.last == (s + 1 == segments))

/-- The show length in LT counts (R60). -/
def showLength (d : ShowDescription) : Nat := d.segments * Config.segmentCounts

/-- The page of a segment's run that holds its cue j, counted within the run (R64). -/
def cuePageIndex (e : IndexEntry) (j : Nat) : Nat := (e.firstCueRecord + j) / Config.recordsPerPage

/-- The pages that hold a segment's run of cue records (R64, R90). -/
def cuePageCount (e : IndexEntry) : Nat :=
  if e.cueCount = 0 then 0 else cuePageIndex e (e.cueCount - 1) + 1

/-- The header of an audio page names this show, segment and page (R62). -/
def audioIdentityOk (data : List Byte) (number segment index : Nat) : Bool :=
  byteAt data 0 == number && field16 data 1 == segment && byteAt data 3 == index

/-- A sample of an audio page: 16 bits, least significant byte first (R166). -/
def sampleAt (data : List Byte) (i : Nat) : BitVec 16 :=
  BitVec.ofNat 16 (byteAt data i + 256 * byteAt data (i + 1))

/-- The sector that holds frame f of an audio page (R56). -/
def sectorOfFrame (f : Nat) : Nat := (48 + 4 * f) / 512

end Sys2Proof.Machine
end

