-- ==== Sys2Proof/Machine/Ops.lean ====
section
/-! DEFINITION. The operations every block shares: a draw of the random generator, latching a fault source,
raising a counter, and doing one thing for every jet. -/

namespace Sys2Proof.Machine

/-- A draw from 0 to range - 1 (00 Conventions). Its value is free (log 3). -/
def draw (range : Nat) (s : State) : Nat := Config.generatorDraw s.generator % range

/-- The state after a draw: the generator has moved on. -/
def afterDraw (s : State) : State := { s with generator := Config.generatorNext s.generator }

/-- The number of a fault source (12.1). -/
def sourceNumber : FaultSource → Nat
  | .estop => 0
  | .aux => 1
  | .dryA => 2
  | .dryB => 3
  | .driveFault => 4
  | .levelLowSeen => 5
  | .pressSensor => 6
  | .levelSensor => 7
  | .windTrip => 8
  | .windSensor => 9
  | .armFail => 10
  | .indexFail => 11
  | .flashTimeout => 12
  | .eccFail => 13
  | .pageId => 14
  | .audioUnderrun => 15
  | .cueLost => 16
  | .dupStation => 17
  | .txFail => 18
  | .configDefault => 19

/-- The bit of a fault source in the 20-bit set (12.1). -/
def sourceBit (f : FaultSource) : BitVec 20 := 1#20 <<< sourceNumber f

/-- The source is latched (R193). -/
def isLatched (f : FaultSource) (s : State) : Bool := s.faults.sources.getLsbD (sourceNumber f)

/-- Latching a source; one already set stays as it is (R193). -/
def latch (f : FaultSource) (s : State) : State :=
  { s with faults := { s.faults with sources := s.faults.sources ||| sourceBit f } }

/-- Clearing a source (R193). -/
def unlatch (f : FaultSource) (s : State) : State :=
  { s with faults := { s.faults with sources := s.faults.sources &&& ~~~ sourceBit f } }

/-- One thing done for every jet, 0 to 11 in order. -/
def forJets (f : Jet → State → State) (s : State) : State :=
  (List.finRange 12).foldl (fun s j => f j s) s

/-- A refusal by the Show Controller or the Cue Queue: counted, and the record overwritten (R96, R120). -/
def refuse (op : RefusedOp) (s : State) : State :=
  { s with
    counters := { s.counters with refused := bump s.counters.refused }
    ctl := { s.ctl with refusal := some (op, s.ctl.state) } }

/-- The station transmits nothing: its straps read 0 (R18). -/
def listenOnly (s : State) : Bool := s.station == 0

/-- The start-up sequence has ended (R190). -/
def started (s : State) : Bool := s.phase == .running

/-- No reset source is active (R189). -/
def powered (s : State) : Bool := s.phase != .inReset

end Sys2Proof.Machine
end

