-- ==== Sys2Proof/Machine/Flash.lean ====
section
/-! DEFINITION. The Flash Stream Engine's own storage (R71 to R83, R86): queue, port, page slots, intake and invalidation;
and the Show Index Cache's storage (R65, R67). -/

namespace Sys2Proof.Machine

/-- The most occupied entries (R71). -/
def queueLimit : Nat := 8

/-- The numbers of the page slots, lowest first. -/
def slotIds : List (Fin 16) := List.finRange 16

/-! ### Slots -/

/-- A slot set. -/
def putSlot (i : Fin 16) (v : Slot) (f : FlashEngine) : FlashEngine := { f with slots := f.slots.set i v }

/-- A slot becomes FREE; the event in hand has freed a slot (R80). -/
def freeSlot (i : Fin 16) (f : FlashEngine) : FlashEngine := { putSlot i .free f with slotFreed := true }

/-- Every slot that p picks becomes FREE. -/
def freeSlots (p : Slot → Bool) (f : FlashEngine) : FlashEngine :=
  slotIds.foldl (fun f i => if p f.slots[i] then freeSlot i f else f) f

/-- The slot is FREE. -/
def Slot.isFree : Slot → Bool
  | .free => true
  | .reserved _ _ => false
  | .filled _ _ _ _ => false
  | .inUse _ _ _ _ => false

/-- The slot is FILLED with a page. -/
def Slot.isFilled (page : Nat) : Slot → Bool
  | .filled p _ _ _ => p == page
  | .free => false
  | .reserved _ _ => false
  | .inUse _ _ _ _ => false

/-- The slot is FILLED with a page and belongs to a stream. -/
def Slot.isFilledFor (stream : StreamId) (page : Nat) : Slot → Bool
  | .filled p x _ _ => p == page && x == some stream
  | .free => false
  | .reserved _ _ => false
  | .inUse _ _ _ _ => false

/-- The slot is IN_USE with a page and belongs to a stream. -/
def Slot.isInUseFor (stream : StreamId) (page : Nat) : Slot → Bool
  | .inUse p x _ _ => p == page && x == some stream
  | .free => false
  | .reserved _ _ => false
  | .filled _ _ _ _ => false

/-- The slot holds a page, FILLED or IN_USE (R86). -/
def Slot.holds (page : Nat) : Slot → Bool
  | .filled p _ _ _ => p == page
  | .inUse p _ _ _ => p == page
  | .free => false
  | .reserved _ _ => false

/-- The slot is FILLED or IN_USE and belongs to a stream (R82). -/
def Slot.heldFor (stream : StreamId) : Slot → Bool
  | .filled _ x _ _ => x == some stream
  | .inUse _ x _ _ => x == some stream
  | .free => false
  | .reserved _ _ => false

/-- The content of a FILLED or IN_USE slot. -/
def Slot.content : Slot → Option PageContent
  | .filled _ _ c _ => some c
  | .inUse _ _ c _ => some c
  | .free => none
  | .reserved _ _ => none

/-- The prefetch mark of a FILLED or IN_USE slot (R76). -/
def Slot.prefetched : Slot → Bool
  | .filled _ _ _ m => m
  | .inUse _ _ _ m => m
  | .free => false
  | .reserved _ _ => false

/-- The first slot that p picks. -/
def findSlot (p : Slot → Bool) (f : FlashEngine) : Option (Fin 16) := slotIds.find? fun i => p f.slots[i]

/-! ### Queue and port -/

/-- The class of an entry (R72). -/
def entryClass (e : QueueEntry) : Nat :=
  match e.purpose, e.kind with
  | .config, _ => 0
  | .directory, _ => 0
  | .header, _ => 0
  | .index, _ => 0
  | .audio, .demand => 1
  | .cue, .demand => 2
  | .audio, .prefetch => 3
  | .cue, .prefetch => 4

/-- The arbiter's choice: of the WAITING entries the lowest class, and within it the oldest (R72). -/
def arbiterChoice : List QueueEntry → Option QueueEntry
  | [] => none
  | e :: rest =>
    match arbiterChoice rest with
    | none => if e.state = .waiting then some e else none
    | some b => if e.state = .waiting ∧ entryClass e ≤ entryClass b then some e else some b

/-- The entries of a page are changed by g. No two occupied entries name one page (R79). -/
def updateEntry (page : Nat) (g : QueueEntry → QueueEntry) (q : List QueueEntry) : List QueueEntry :=
  q.map fun e => if e.page = page then g e else e

/-- The free port is granted to a WAITING entry, which enters LOADING with the 5 ms timer started (R72 to R74). -/
def grantPort (f : FlashEngine) : FlashEngine :=
  if f.portBusy then f
  else
    match arbiterChoice f.queue with
    | none => f
    | some e =>
      { f with queue := updateEntry e.page (fun e => { e with state := .loading }) f.queue,
               portBusy := true, timer := some 0 }

/-- The occupied entry that names a page. -/
def entryFor (page : Nat) (f : FlashEngine) : Option QueueEntry := f.queue.find? fun e => e.page == page

/-- The entry the port is working on, in LOADING or TRANSFER (R73). -/
def activeEntry (f : FlashEngine) : Option QueueEntry :=
  f.queue.find? fun e => e.state == .loading || e.state == .transfer

/-! ### Intake (R79) -/

/-- A request as it comes to the engine (5.3). -/
structure Request where
  page : Nat
  purpose : Purpose
  kind : RequestKind
  stream : Option StreamId
deriving DecidableEq, Repr

/-- What becomes of a request (R79). -/
inductive Answer where
  | hit (slot : Fin 16)
  /-- A new or merged entry, or a prefetch that has nothing to do. -/
  | taken
  | rejected
  | dropped
deriving DecidableEq, Repr

/-- A request for which there is no place: a demand is rejected, a prefetch dropped (R79). -/
def turnedAway : RequestKind → Answer
  | .demand => .rejected
  | .prefetch => .dropped

/-- A demand merged into a PREFETCH entry: kind, purpose and stream change, the age does not (R79). -/
def mergeEntry (r : Request) (e : QueueEntry) (f : FlashEngine) : FlashEngine :=
  let merged := fun e : QueueEntry => { e with kind := .demand, purpose := r.purpose, stream := r.stream }
  putSlot e.slot (.reserved r.page r.stream) { f with queue := updateEntry r.page merged f.queue }

/-- A new entry, WAITING, with the lowest FREE slot reserved; a free port is granted at once (R71, R72, R77). -/
def addEntry (r : Request) (i : Fin 16) (f : FlashEngine) : FlashEngine :=
  grantPort
    (putSlot i (.reserved r.page r.stream)
      { f with queue := f.queue ++ [{ page := r.page, purpose := r.purpose, kind := r.kind, stream := r.stream,
                                      state := .waiting, discard := false, slot := i }] })

/-- A request taken (R79). -/
def intake (r : Request) (f : FlashEngine) : FlashEngine × Answer :=
  match findSlot (Slot.isFilled r.page) f with
  | some i =>
    match r.kind with
    | .demand => (f, .hit i)
    | .prefetch => (f, .taken)
  | none =>
    match entryFor r.page f with
    | some e =>
      if e.discard then (f, turnedAway r.kind)
      else
        match e.kind, r.kind with
        | .prefetch, .demand => (mergeEntry r e f, .taken)
        | .prefetch, .prefetch => (f, .taken)
        | .demand, _ => (f, turnedAway r.kind)
    | none =>
      match findSlot Slot.isFree f with
      | some i => if f.queue.length < queueLimit then (addEntry r i f, .taken) else (f, turnedAway r.kind)
      | none => (f, turnedAway r.kind)

/-! ### Cancelling entries (R82, R83, R87) -/

/-- The entries p picks: a WAITING one is removed and its slot freed, one already started is discarded. -/
def cancelEntries (p : QueueEntry → Bool) (f : FlashEngine) : FlashEngine :=
  let gone := f.queue.filter fun e => p e && e.state == .waiting
  let kept := (f.queue.filter fun e => !(p e && e.state == .waiting)).map
    fun e => if p e then { e with discard := true } else e
  gone.foldl (fun f e => freeSlot e.slot f) { f with queue := kept }

/-- The entries p picks are discarded, whatever their state (R65, R70, R112). -/
def discardEntries (p : QueueEntry → Bool) (f : FlashEngine) : FlashEngine :=
  { f with queue := f.queue.map fun e => if p e then { e with discard := true } else e }

/-! ### Streams -/

/-- A stream's record. -/
def streamOf (x : StreamId) (f : FlashEngine) : StreamRecord :=
  match x with
  | .audio => f.audio
  | .cue => f.cue

/-- A stream's record replaced. -/
def putStream (x : StreamId) (r : StreamRecord) (f : FlashEngine) : FlashEngine :=
  match x with
  | .audio => { f with audio := r }
  | .cue => { f with cue := r }

/-- A stream's record changed. -/
def onStream (x : StreamId) (g : StreamRecord → StreamRecord) (f : FlashEngine) : FlashEngine :=
  putStream x (g (streamOf x f)) f

/-- The purpose of a stream's reads (R71). -/
def streamPurpose : StreamId → Purpose
  | .audio => .audio
  | .cue => .cue

/-- A stream's maximum depth (R84). -/
def maxDepth : StreamId → Nat
  | .audio => 6
  | .cue => 3

/-- The index page a lookup needs (R63). -/
def Lookup.indexPage (l : Lookup) : Nat := l.segment / Config.recordsPerPage

/-- Lookups cancelled; a pending demand for an index page ends when no lookup waits on it (R80). -/
def cancelLookups (p : Lookup → Bool) (f : FlashEngine) : FlashEngine :=
  let left := f.lookups.filter fun l => !p l
  { f with lookups := left, indexDemands := f.indexDemands.filter fun i => left.any fun l => l.indexPage == i }

/-- Invalidation of a stream (R82): entries, slots, pending demand, lookup, segment records, depth; and the reader's
place with its marks (R78, R106). The stream stays on or off as it was. -/
def invalidate (x : StreamId) (f : FlashEngine) : FlashEngine :=
  let f := cancelEntries (fun e => e.stream == some x) f
  let f := freeSlots (Slot.heldFor x) f
  let f := cancelLookups (fun l => l.who == .stream x) f
  let f := putStream x { StreamRecord.off with on := (streamOf x f).on } f
  match x with
  | .audio => f
  | .cue => { f with reader := CueReader.cleared }

/-- A stream turned OFF (R86). -/
def turnOff (x : StreamId) (f : FlashEngine) : FlashEngine :=
  onStream x (fun r => { r with on := false }) (invalidate x f)

/-! ### The Show Index Cache -/

/-- The cache's capacity (R65). -/
def cacheLimit : Nat := 4

/-- The held index page with a number. -/
def cachedPage (i : Nat) (f : FlashEngine) : Option CachePage := f.cache.find? fun p => p.number == i

/-- The cache emptied: pages, failure marks, lookups and pending demands go, INDEX reads are discarded (R65, R70). -/
def emptyCache (f : FlashEngine) : FlashEngine :=
  discardEntries (fun e => e.purpose == .index)
    { f with cache := [], failMarks := [], lookups := [], indexDemands := [] }

/-- An index page stored: in an EMPTY entry, or in place of the earliest arrival; its failure mark cleared (R67). -/
def storeIndexPage (i : Nat) (entries : List IndexEntry) (f : FlashEngine) : FlashEngine :=
  let kept := if f.cache.length < cacheLimit then f.cache else f.cache.drop 1
  { f with cache := kept ++ [{ number := i, entries := entries }], failMarks := f.failMarks.filter (· != i) }

/-- A lookup's entry in a held page. -/
def CachePage.entryOf (p : CachePage) (segment : Nat) : IndexEntry :=
  p.entries.getD (segment % Config.recordsPerPage)
    { firstAudio := 0, firstCuePage := 0, firstCueRecord := 0, keyPresent := false, last := false, cueCount := 0 }

/-- The reads that end with a show: DIRECTORY, HEADER and INDEX (R70, R112). -/
def classZeroShow (e : QueueEntry) : Bool :=
  e.purpose == .directory || e.purpose == .header || e.purpose == .index

/-- The engine's part of teardown (R112): streams OFF, class 0 reads of the show discarded, cache and description
cleared. -/
def teardownFlash (f : FlashEngine) : FlashEngine :=
  let f := turnOff .cue (turnOff .audio f)
  { emptyCache (discardEntries classZeroShow f) with description := none, armDemand := none }

/-- A reader's slot, FILLED or IN_USE for its stream, becomes FREE when the reader moves off the page (R78). -/
def leavePage (x : StreamId) (page : Nat) (f : FlashEngine) : FlashEngine :=
  freeSlots (Slot.isInUseFor x page) f

/-- A stream's pending demand for one of some pages ends (R87). -/
def endDemandFor (pages : List Nat) (r : StreamRecord) : StreamRecord :=
  { r with pendingDemand := r.pendingDemand.filter fun p => !pages.contains p }

/-- Pages the AUDIO reader jumps over are abandoned (R87), whichever stream they stand for: FILLED slots freed, WAITING
entries removed, started ones discarded, a pending demand ended. Reads of class 0 are not reached (log 18). -/
def abandonPages (pages : List Nat) (f : FlashEngine) : FlashEngine :=
  let f := freeSlots (fun v => pages.any fun p => v.isFilled p) f
  let f := cancelEntries (fun e => e.stream.isSome && pages.contains e.page) f
  onStream .cue (endDemandFor pages) (onStream .audio (endDemandFor pages) f)

end Sys2Proof.Machine
end

