-- ==== Sys2Proof/Machine/Flags.lean ====
section
/-! DEFINITION. The flag computations: fault groups, group bits and standing conditions (R193, R194), beacon flags (R194, 12.1). -/

namespace Sys2Proof.Machine

/-- The five fault groups, in group-bit order (12.1). -/
inductive FaultGroup where
  | safety | hydraulic | weather | media | line
deriving DecidableEq, Repr

/-- The number of a group bit (12.1). -/
def groupNumber : FaultGroup → Nat
  | .safety => 0
  | .hydraulic => 1
  | .weather => 2
  | .media => 3
  | .line => 4

/-- The group of a source (R193). -/
def groupOf : FaultSource → FaultGroup
  | .estop | .aux => .safety
  | .dryA | .dryB | .driveFault | .levelLowSeen | .pressSensor | .levelSensor => .hydraulic
  | .windTrip | .windSensor => .weather
  | .armFail | .indexFail | .flashTimeout | .eccFail | .pageId | .audioUnderrun | .cueLost => .media
  | .dupStation | .txFail | .configDefault => .line

/-- The twenty sources in the order of their numbers (12.1). -/
def allSources : List FaultSource :=
  [.estop, .aux, .dryA, .dryB, .driveFault, .levelLowSeen, .pressSensor, .levelSensor, .windTrip, .windSensor,
   .armFail, .indexFail, .flashTimeout, .eccFail, .pageId, .audioUnderrun, .cueLost, .dupStation, .txFail,
   .configDefault]

/-- The five groups in group-bit order. -/
def allGroups : List FaultGroup := [.safety, .hydraulic, .weather, .media, .line]

/-- A group bit: some source of the group is set and its mask bit is 1 (R194). -/
def groupBit (g : FaultGroup) (s : State) : Bool :=
  allSources.any fun f =>
    groupOf f == g && isLatched f s && s.config.faultMask.getLsbD (sourceNumber f)

/-- The group bits as a byte: bit 0 SAFETY to bit 4 LINE (12.1). -/
def groupByte (s : State) : Nat :=
  (allGroups.map fun g => if groupBit g s then 2 ^ groupNumber g else 0).sum

/-- The flags byte of a beacon: LEVEL_LOW, SAFE, DRY_STATION, CONFIG_DEFAULT (R194, 12.1). -/
def beaconFlags (s : State) : Nat :=
  (if s.sensors.levelLow then 1 else 0) + (if s.ctl.state = .safe then 2 else 0) +
  (if s.dryStation then 4 else 0) + (if isLatched .configDefault s then 8 else 0)

/-- An input's record. -/
def PerInput.get {α : Type} (p : PerInput α) : AnalogInput → α
  | .wind => p.wind
  | .level => p.level
  | .pressA => p.pressA
  | .pressB => p.pressB

/-- An input's record replaced. -/
def PerInput.put {α : Type} (p : PerInput α) (i : AnalogInput) (v : α) : PerInput α :=
  match i with
  | .wind => { p with wind := v }
  | .level => { p with level := v }
  | .pressA => { p with pressA := v }
  | .pressB => { p with pressB := v }

/-- An input's health (R176). -/
def healthOf (i : AnalogInput) (s : State) : Health := (s.sensors.inputs.get i).health

/-- The standing condition of a source (R193): a CLEAR leaves the source set while it holds. -/
def standing (f : FaultSource) (s : State) : Bool :=
  match f with
  | .estop => s.locks.estopTrip
  | .aux => s.locks.auxTrip
  | .driveFault => s.faults.pumpMask != 0#12
  | .levelLowSeen => s.sensors.levelLow
  | .pressSensor => healthOf .pressA s == .failed || healthOf .pressB s == .failed
  | .levelSensor => healthOf .level s == .failed
  | .windTrip => s.jets.causes.wind
  | .windSensor => healthOf .wind s == .failed
  | .audioUnderrun => s.audio.run == 4800
  | .txFail => !s.line.sentSinceTxFail
  | .configDefault => true
  | .dryA | .dryB | .armFail | .indexFail | .flashTimeout | .eccFail | .pageId | .cueLost | .dupStation => false

end Sys2Proof.Machine
end

