-- ==== Sys2Proof/Machine/Ramps.lean ====
section
/-! DEFINITION. Channel contexts: ramp values (R127) and how cues, releases and fades set layers (R109, R126 to R131). -/

namespace Sys2Proof.Machine

/-- The value at LT t of a ramp from v0 at t0 to v1 at t1, truncated toward zero (R127). -/
def rampValue (v0 v1 : Int) (t0 t1 t : LineTime) : Int :=
  if atOrAfter t t1 then v1
  else if !atOrAfter t t0 then v0
  else v0 + Int.tdiv ((v1 - v0) * ltDiff t t0) (ltDiff t1 t0)

/-- The value of a jet or gain layer at LT t. -/
def natLayerAt (t : LineTime) (l : Layer Nat) : Nat := (rampValue l.v0 l.v1 l.t0 l.t1 t).toNat

/-- The value of a light layer at LT t: each component by the same rule (R127). -/
def rgbLayerAt (t : LineTime) (l : Layer Rgb) : Rgb :=
  { r := (rampValue l.v0.r l.v1.r l.t0 l.t1 t).toNat
    g := (rampValue l.v0.g l.v1.g l.t0 l.t1 t).toNat
    b := (rampValue l.v0.b l.v1.b l.t0 l.t1 t).toNat }

/-- The active layer: LIVE when present, TRACK otherwise (R126). -/
def activeLayer {α : Type} (c : Context α) : Layer α :=
  match c.live with
  | some l => l
  | none => c.track

/-- The value of a jet context or of the gain context at LT t (R127). -/
def natContextAt (t : LineTime) (c : Context Nat) : Nat := natLayerAt t (activeLayer c)

/-- The value of a light context at LT t (R127). -/
def rgbContextAt (t : LineTime) (c : Context Rgb) : Rgb := rgbLayerAt t (activeLayer c)

/-- A layer set afresh at LT t: from a value, to a target, over r ramp units (R128, R129). -/
def rampLayer {α : Type} (value target : α) (t : LineTime) (r : Nat) : Layer α :=
  { v0 := value, v1 := target, t0 := t, t1 := t + BitVec.ofNat 32 (Config.controlCounts * r) }

/-- A TRACK cue applied to a context (R128): the LIVE layer is left as it is. -/
def applyTrack {α : Type} (layerAt : LineTime → Layer α → α) (target : α) (t : LineTime) (r : Nat)
    (c : Context α) : Context α :=
  { c with track := rampLayer (layerAt t c.track) target t r }

/-- A LIVE cue applied to a context (R129): the TRACK layer is left as it is. -/
def applyLive {α : Type} (layerAt : LineTime → Layer α → α) (target : α) (t : LineTime) (r : Nat)
    (c : Context α) : Context α :=
  { c with live := some (rampLayer (layerAt t (activeLayer c)) target t r) }

/-- A JET, LIGHT or GAIN cue applied to a context by its source (R124). -/
def applyTarget {α : Type} (layerAt : LineTime → Layer α → α) (source : CueSource) (target : α) (t : LineTime)
    (r : Nat) (c : Context α) : Context α :=
  match source with
  | .track => applyTrack layerAt target t r c
  | .live => applyLive layerAt target t r c

/-- The later of two LT values (R130). -/
def laterLt (a b : LineTime) : LineTime := if atOrAfter a b then a else b

/-- A RELEASE applied to a context (R130): no effect where no LIVE layer is held. -/
def applyRelease {α : Type} (layerAt : LineTime → Layer α → α) (t : LineTime) (r : Nat) (c : Context α) : Context α :=
  match c.live with
  | none => c
  | some l =>
    { track := { v0 := layerAt t l, v1 := c.track.v1, t0 := t,
                 t1 := laterLt (t + BitVec.ofNat 32 (Config.controlCounts * r)) c.track.t1 }
      live := none }

/-- A context given the fade of ENDING (R109): from its active value to zero, ending at the fade end LT. -/
def fadeContext {α : Type} (layerAt : LineTime → Layer α → α) (zero : α) (t fadeEnd : LineTime) (c : Context α) :
    Context α :=
  { track := { v0 := layerAt t (activeLayer c), v1 := zero, t0 := t, t1 := fadeEnd }, live := none }

/-- Black. -/
def black : Rgb := ⟨0, 0, 0⟩

/-- Every context given the fade of ENDING (R109). -/
def fadeContexts (t fadeEnd : LineTime) (x : Contexts) : Contexts :=
  { jets := Vector.ofFn fun j => fadeContext natLayerAt 0 t fadeEnd x.jets[j]
    lights := Vector.ofFn fun i => fadeContext rgbLayerAt black t fadeEnd x.lights[i]
    gain := fadeContext natLayerAt 0 t fadeEnd x.gain }

/-- Every context at rest: jets at 0, lights black, gain 256, no LIVE layer (R102, R112, R126). -/
def restContexts (t : LineTime) : Contexts :=
  { jets := Vector.replicate 12 (Context.rest 0 t)
    lights := Vector.replicate 12 (Context.rest black t)
    gain := Context.rest 256 t }

/-- Each context of twelve whose mask bit is set is changed by f. -/
def onMask {α : Type} (mask : BitVec 12) (f : Context α → Context α) (v : Vector (Context α) 12) :
    Vector (Context α) 12 :=
  Vector.ofFn fun i => if mask.getLsbD i.val then f v[i] else v[i]

/-- A released cue's effect on the channel contexts, by its kind (R124). An END cue reaches none. -/
def applyCue (source : CueSource) (kind : CueKind) (mask : BitVec 12) (t : LineTime) (r : Nat) (x : Contexts) :
    Contexts :=
  match kind with
  | .jet h => { x with jets := onMask mask (applyTarget natLayerAt source h t r) x.jets }
  | .light c => { x with lights := onMask mask (applyTarget rgbLayerAt source c t r) x.lights }
  | .gain g => { x with gain := if mask.getLsbD 0 then applyTarget natLayerAt source g t r x.gain else x.gain }
  | .release =>
    { jets := onMask mask (applyRelease natLayerAt t r) x.jets
      lights := onMask mask (applyRelease rgbLayerAt t r) x.lights
      gain := if mask.getLsbD 0 then applyRelease natLayerAt t r x.gain else x.gain }
  | .ending => x

end Sys2Proof.Machine
end

