-- ==== Sys2Proof/Machine/Lamp.lean ====
section
/-! DEFINITION. The Lamp Output (R157 to R162): light values, the hand-over of speeds, and the lamp link's frames. -/

namespace Sys2Proof.Machine

/-- A light's components, from the first case of R158 that applies. -/
def lightValue (s : State) (i : Jet) : Rgb :=
  let cfg := s.config.lights[i]
  if !cfg.enable then black
  else if s.ctl.state = .safe then
    ⟨s.config.safeLight.toNat, s.config.safeLight.toNat, s.config.safeLight.toNat⟩
  else
    match cfg.binding with
    | some j => if s.lamp.speeds[j] = 0 then black else rgbContextAt s.ltu.lt s.ctx.lights[i]
    | none => rgbContextAt s.ltu.lt s.ctx.lights[i]

/-- All twelve lights computed (R158). -/
def computeLights (s : State) : State :=
  { s with lamp := { s.lamp with slots := Vector.ofFn fun i => lightValue s i } }

/-- The lights bound to jet j computed (R159). -/
def computeBoundLights (j : Jet) (s : State) : State :=
  { s with
    lamp := { s.lamp with
      slots := Vector.ofFn fun i =>
        if s.config.lights[i].binding = some j then lightValue s i else s.lamp.slots[i] } }

/-- A new s_out handed to the Lamp Output: its copy, then the lights bound to the jet (R159). -/
def handSpeed (j : Jet) (v : Nat) (s : State) : State :=
  computeBoundLights j { s with lamp := { s.lamp with speeds := s.lamp.speeds.set j v } }

/-- The 36 slot values in slot order (R157). -/
def slotBytes (l : LampOutput) : List Byte :=
  l.slots.toList.flatMap fun c => bytes8 c.r ++ bytes8 c.g ++ bytes8 c.b

/-- A lamp frame of the slot values as they stand: 39 bytes (R161). -/
def lampFrame (l : LampOutput) : List Byte := [0x5A#8] ++ slotBytes l ++ crcBytes (slotBytes l)

/-- The lamp link's work at a control instant (R162). -/
def lampLink (s : State) : State :=
  let l := s.lamp
  if l.due then
    match l.sending with
    | none => { s with lamp := { l with due := false, sending := some (lampFrame l) } }
    | some _ => { s with lamp := { l with due := false, heldBack := true } }
  else { s with lamp := { l with due := true } }

end Sys2Proof.Machine
end

