-- ==== Sys2Proof/Machine/Peers.lean ====
section
/-! DEFINITION. The Peer Table (R20 to R35): records, ageing, and the views other blocks read. -/

namespace Sys2Proof.Machine

/-- The most peer records (R20). -/
def peerLimit : Nat := 30

/-- The age at which a record is removed (R26). -/
def removalAge : Nat := 20001

/-- A record is FRESH: age 0 to 1,000 ms (R26). -/
def PeerRecord.fresh (p : PeerRecord) : Bool := p.age ≤ 1000

/-- The peer record of a BEACON payload (R21, R23), with the offset measured as R24 and R25 state:
LT field less captured LT, less the corrections made since the capture. -/
def peerOfBeacon (source : Nat) (payload : List Byte) (capture : LineTime) (correction : BitVec 32) : PeerRecord :=
  { station := source
    age := 0
    offset := BitVec.ofNat 32 (field32 payload 0) - capture - correction
    sampleNew := true
    showNumber := if byteAt payload 4 < 16 then some (byteAt payload 4) else none
    showState := showOfCode (byteAt payload 5)
    startLt := BitVec.ofNat 32 (field32 payload 6)
    clockState := clockOfCode (byteAt payload 10)
    request := field32 payload 11
    windHeld := min (field16 payload 15) 600
    levelLow := bitAt payload 17 0
    syncGroup := byteAt payload 19
    basinGroup := byteAt payload 20
    windGroup := byteAt payload 21
    feedGroup := byteAt payload 22 }

/-- A record put in its station-number place; a record of the same station is overwritten (R20, R21). -/
def putPeer (p : PeerRecord) : List PeerRecord → List PeerRecord
  | [] => [p]
  | q :: rest =>
    if p.station < q.station then p :: q :: rest
    else if p.station = q.station then p :: rest
    else q :: putPeer p rest

/-- The record with the greatest age; of several, the lowest station number (R22). The table is in station order. -/
def oldestPeer : List PeerRecord → Option PeerRecord
  | [] => none
  | p :: rest =>
    match oldestPeer rest with
    | none => some p
    | some q => if q.age ≤ p.age then some p else some q

/-- The table without a station's record. -/
def withoutPeer (station : Nat) (peers : List PeerRecord) : List PeerRecord :=
  peers.filter fun p => p.station != station

/-- A beacon dispatched to the Peer Table (R21, R22). -/
def takeBeacon (p : PeerRecord) (s : State) : State :=
  if s.peers.any (fun q => q.station == p.station) || s.peers.length < peerLimit then
    { s with peers := putPeer p s.peers }
  else
    match oldestPeer s.peers with
    | none => s
    | some old =>
      { s with
        peers := putPeer p (withoutPeer old.station s.peers)
        counters := { s.counters with peerOverflow := bump s.counters.peerOverflow } }

/-- Every stored offset follows a correction n of own LT; so does a beacon still being received (R25). -/
def correctOffsets (n : Int) (s : State) : State :=
  { s with
    peers := s.peers.map fun p => { p with offset := p.offset - BitVec.ofInt 32 n }
    line := { s.line with rx := { s.line.rx with correction := s.line.rx.correction + BitVec.ofInt 32 n } } }

/-- Every record one millisecond older; one at removal age waits for its removal (R26). -/
def agePeers (peers : List PeerRecord) : List PeerRecord :=
  peers.map fun p => { p with age := min (p.age + 1) removalAge }

/-- Heard demand for a feed group (R30). -/
def heardDemand (group : Nat) (peers : List PeerRecord) : Nat :=
  ((peers.filter fun p => p.feedGroup == group).map (·.request)).sum

/-- Peer wind maximum for a wind group (R31). -/
def peerWind (group : Nat) (peers : List PeerRecord) : Nat :=
  ((peers.filter fun p => p.windGroup == group).map (·.windHeld)).foldl max 0

/-- Basin alarm view for a basin group (R32). -/
def peerLevelLow (group : Nat) (peers : List PeerRecord) : Bool :=
  peers.any fun p => p.basinGroup == group && p.levelLow

/-- A record gives a clock sample for a sync group (R33). -/
def PeerRecord.sampled (group : Nat) (p : PeerRecord) : Bool :=
  p.fresh && p.syncGroup == group && p.sampleNew

/-- The clock samples for a sync group, in station order (R33). -/
def clockSamples (group : Nat) (peers : List PeerRecord) : List Int :=
  (peers.filter (PeerRecord.sampled group)).map fun p => p.offset.toInt

/-- The table after the samples are handed over: sample_new cleared where it gave one (R33). -/
def samplesTaken (group : Nat) (peers : List PeerRecord) : List PeerRecord :=
  peers.map fun p => if p.sampled group then { p with sampleNew := false } else p

/-- What the table offers for auto-join: show number and start LT of each FRESH, RUNNING, LOCKED record
of the group that names a show, in station order (R34). -/
def joinOffers (group : Nat) (peers : List PeerRecord) : List (Nat × LineTime) :=
  peers.filterMap fun p =>
    if p.fresh && p.syncGroup == group && p.showState == some .running && p.clockState == some .locked
    then p.showNumber.map fun n => (n, p.startLt) else none

end Sys2Proof.Machine
end

