-- ==== Sys2Proof/Machine/Pumps.lean ====
section
/-! DEFINITION. The Jet Drive Unit (R134 to R156): pump states, park causes, and the computation from height to speed;
with the dry condition of R183, which the Sensor Monitor judges at each of its changes. -/

namespace Sys2Proof.Machine

/-- The manifold of a jet (R134). -/
def manifoldOf (j : Jet) : Manifold := if j.val < 6 then .a else .b

/-- A manifold's pressure input (R174). -/
def pressureInput : Manifold → AnalogInput
  | .a => .pressA
  | .b => .pressB

/-- A manifold's dry-run source (R193). -/
def drySource : Manifold → FaultSource
  | .a => .dryA
  | .b => .dryB

/-- A pump record replaced. -/
def setPump (j : Jet) (p : Pump) (s : State) : State :=
  { s with jets := { s.jets with pumps := s.jets.pumps.set j p } }

/-! ### The dry condition (R183) -/

/-- The dry condition of a manifold (R183): input READY, pressure below P_MIN, a pump RUNNING at 300 ‰ or more. -/
def dryCondition (m : Manifold) (s : State) : Bool :=
  let input := s.sensors.inputs.get (pressureInput m)
  input.health == .ready && input.scaled < s.config.pMin &&
    (List.finRange 12).any fun j =>
      manifoldOf j == m && s.jets.pumps[j].state == .running && 300 ≤ s.jets.pumps[j].sOut

/-- A dry timer after its condition is judged: it starts from 0 when the condition comes to hold, runs on while it
holds, and is stopped at 0 when it ceases (R183). -/
def judgedTimer (holds : Bool) (t : Option Nat) : Option Nat :=
  if holds then some (t.getD 0) else none

/-- The dry condition of a manifold judged (R183), at every change R183 names. One that falls between the sample which makes
the pressure input READY and its next sample is such a change too, and may start the timer. R177 has the mechanism resume
from the next sample, and the timer start when its condition is next found (DESIGN CHOICE, unsafe: log 29). -/
def judgeDry (m : Manifold) (s : State) : State :=
  match m with
  | .a => { s with sensors := { s.sensors with dryA := judgedTimer (dryCondition .a s) s.sensors.dryA } }
  | .b => { s with sensors := { s.sensors with dryB := judgedTimer (dryCondition .b s) s.sensors.dryB } }

/-! ### Entries into pump states (R144) -/

/-- Entry into PARKED, PARKING, FAULTED or DISABLED: the speeds go to 0 and the new s_out is handed on in the event;
both timers are set to 0 (R144, R147, R148, R149, R151, R159, R183). That the run-down timer stands at 0 in a pump PARKED by
the end of its run-down is the model's (DESIGN CHOICE, unsafe: log 43). -/
def stopPump (j : Jet) (state : PumpState) (s : State) : State :=
  judgeDry (manifoldOf j)
    (handSpeed j 0
      (setPump j { s.jets.pumps[j] with state := state, sReq := 0, sB := 0, sOut := 0,
                                        primeTimer := 0, runDownTimer := 0 } s))

/-- The Show Controller's run permit (R94). -/
def runPermit (s : State) : Bool :=
  match s.ctl.state with
  | .armed => true
  | .running => true
  | .arming => 5 ≤ s.ctl.armStep
  | .idle => false
  | .ending => false
  | .safe => false

/-- The park-cause set is empty (R148). -/
def noCause (s : State) : Bool :=
  !s.jets.causes.wind && !s.jets.causes.level && !s.jets.causes.aux && !s.jets.causes.ending

/-- The prime conditions: the run permit and an empty park-cause set (R146). -/
def primeConditions (s : State) : Bool := runPermit s && noCause s

/-- A pump may start priming: PARKED, the prime conditions, and its stagger passed (R146). -/
def primeReadyFor (j : Jet) (s : State) : Bool :=
  s.jets.pumps[j].state == .parked && primeConditions s && timerShows (500 * j.val) s.jets.primeReady

/-- Entry into PRIMING (R146, R147): its speeds stay, its prime timer starts at 0. -/
def startPriming (j : Jet) (s : State) : State :=
  judgeDry (manifoldOf j) (setPump j { s.jets.pumps[j] with state := .priming, primeTimer := 0 } s)

/-- A pump starts priming if it may (R146). -/
def primeIfReady (j : Jet) (s : State) : State := if primeReadyFor j s then startPriming j s else s

/-- Arrival at PARKED: the pump primes at once if its stagger has passed (R146). -/
def arriveParked (j : Jet) (s : State) : State := primeIfReady j (stopPump j .parked s)

/-- Entry into PARKING (R148): with a run-down of 0 the pump is PARKED in the same event. -/
def enterParking (j : Jet) (s : State) : State :=
  let s := stopPump j .parking s
  if s.config.runDown = 0 then arriveParked j s else s

/-- A PRIMING or RUNNING pump parks while a cause is present (R148). -/
def parkIfCaused (j : Jet) (s : State) : State :=
  match s.jets.pumps[j].state with
  | .priming => if noCause s then s else enterParking j s
  | .running => if noCause s then s else enterParking j s
  | .disabled => s
  | .parked => s
  | .parking => s
  | .faulted => s

/-- Entry into RUNNING (R147): the prime timer is set to 0, the speeds stay. -/
def enterRunning (j : Jet) (s : State) : State :=
  parkIfCaused j
    (judgeDry (manifoldOf j) (setPump j { s.jets.pumps[j] with state := .running, primeTimer := 0 } s))

/-- The prime-ready timer after a change of the run permit or the park causes: it starts from 0 when the prime
conditions come to hold, and is stopped at 0 when they cease (R146, R155). Jet 0 primes when they come to hold. -/
def refreshPriming (s : State) : State :=
  if primeConditions s then
    match s.jets.primeReady with
    | some _ => s
    | none => primeIfReady 0 { s with jets := { s.jets with primeReady := some 0 } }
  else { s with jets := { s.jets with primeReady := none } }

/-! ### Park causes (R148, R152 to R155) -/

/-- The park causes (8.5). -/
inductive ParkCause where
  | wind | level | aux | ending
deriving DecidableEq, Repr

/-- The park-cause set with one cause present or absent. -/
def ParkCauses.put (c : ParkCauses) (which : ParkCause) (present : Bool) : ParkCauses :=
  match which with
  | .wind => { c with wind := present }
  | .level => { c with level := present }
  | .aux => { c with aux := present }
  | .ending => { c with ending := present }

/-- A cause becomes present: every PRIMING and RUNNING pump parks, and the prime-ready timer stops (R148, R155). -/
def addCause (which : ParkCause) (s : State) : State :=
  refreshPriming
    (forJets parkIfCaused { s with jets := { s.jets with causes := s.jets.causes.put which true } })

/-- A cause is cleared; when the set empties while the permit is given the prime-ready timer starts (R155). -/
def removeCause (which : ParkCause) (s : State) : State :=
  refreshPriming { s with jets := { s.jets with causes := s.jets.causes.put which false } }

/-! ### Faults (R149, R150, R151) -/

/-- A pump enters FAULTED with cause DRIVE (R149): any pump but a DISABLED one. -/
def faultDrive (j : Jet) (s : State) : State :=
  if s.jets.pumps[j].state = .disabled then s
  else stopPump j .faulted (setPump j { s.jets.pumps[j] with drive := true } s)

/-- A pump enters FAULTED with cause DRY (R149). -/
def faultDry (j : Jet) (s : State) : State :=
  stopPump j .faulted (setPump j { s.jets.pumps[j] with dry := true } s)

/-- A dry-run detection reaches a PRIMING or RUNNING pump of the manifold (R149, R183). -/
def faultDryOn (m : Manifold) (j : Jet) (s : State) : State :=
  if manifoldOf j = m ∧ (s.jets.pumps[j].state = .priming ∨ s.jets.pumps[j].state = .running) then faultDry j s else s

/-- A CLEAR naming HYDRAULIC examines a FAULTED pump (R150): DRY always goes, DRIVE when the trip has gone. -/
def releasePump (j : Jet) (s : State) : State :=
  let p := s.jets.pumps[j]
  if p.state = .faulted then
    let s := setPump j { p with dry := false, drive := p.drive && s.locks.driveTrips[j] } s
    if p.drive && s.locks.driveTrips[j] then s else arriveParked j s
  else s

/-- Entry into SAFE forces a PRIMING, RUNNING or PARKING pump to PARKED without run-down (R151). -/
def forceParked (j : Jet) (s : State) : State :=
  match s.jets.pumps[j].state with
  | .priming => stopPump j .parked s
  | .running => stopPump j .parked s
  | .parking => stopPump j .parked s
  | .disabled => s
  | .parked => s
  | .faulted => s

/-! ### Wind and level (R152, R153, R180, R182) -/

/-- The own held wind: the greatest of the ten bins (R179). -/
def heldWind (s : State) : Nat := s.sensors.bins.toList.foldl max 0

/-- The effective wind (R180). -/
def effectiveWind (s : State) : Nat := max (heldWind s) (peerWind s.config.windGroup s.peers)

/-- The basin alarm (R182). -/
def basinAlarm (s : State) : Bool :=
  s.sensors.levelLow || healthOf .level s != .ready || peerLevelLow s.config.basinGroup s.peers

/-- The WIND resume timer set. -/
def setWindResume (t : Option Nat) (s : State) : State := { s with jets := { s.jets with windResume := t } }

/-- The LEVEL resume timer set. -/
def setLevelResume (t : Option Nat) (s : State) : State := { s with jets := { s.jets with levelResume := t } }

/-- The WIND park cause judged at a control instant (R152). -/
def judgeWind (s : State) : State :=
  let w := effectiveWind s
  if s.config.wTrip ≤ w then
    let s := setWindResume none s
    if s.jets.causes.wind then s else addCause .wind (latch .windTrip s)
  else if s.config.wHigh ≤ w then setWindResume none s
  else if s.jets.causes.wind then
    if timerShows 30000 s.jets.windResume then removeCause .wind (setWindResume none s)
    else setWindResume (some (s.jets.windResume.getD 0)) s
  else s

/-- The LEVEL park cause judged at a control instant (R153). -/
def judgeLevel (s : State) : State :=
  if basinAlarm s then
    let s := setLevelResume none s
    if s.jets.causes.level then s else addCause .level s
  else if s.jets.causes.level then
    if timerShows 60000 s.jets.levelResume then removeCause .level (setLevelResume none s)
    else setLevelResume (some (s.jets.levelResume.getD 0)) s
  else s

/-! ### From height to speed (R137 to R143) -/

/-- The wind factor f in ‰ (R138). -/
def windFactor (low high trip w : Nat) : Nat :=
  if w ≤ low then 1000
  else if w < high then 1000 - 750 * (w - low) / (high - low)
  else if w < trip then 250
  else 0

/-- Stage 2: the height under the wind ceiling (R138). -/
def cappedHeight (c : Configuration) (j : JetConfig) (w cue : Nat) : Nat :=
  min cue (j.topHeight * windFactor c.wLow c.wHigh c.wTrip w / 1000)

/-- A quotient rounded up. -/
def ceilDiv (a b : Nat) : Nat := (a + b - 1) / b

/-- Stage 3 for a RUNNING pump at a height above 0: the curve inverted (R139). -/
def invertCurve (pts : Vector CurvePoint 8) (h : Nat) : Nat :=
  match (List.finRange 7).find? fun i => h ≤ pts[i.val + 1].height with
  | some i =>
    let p := pts[i.val]
    let q := pts[i.val + 1]
    p.speed + ceilDiv ((q.speed - p.speed) * (h - p.height)) (q.height - p.height)
  | none => pts[7].speed

/-- Stage 3: the requested speed by the pump state (R139). -/
def requestedSpeed (sPrime : Nat) (state : PumpState) (curve : Vector CurvePoint 8) (h : Nat) : Nat :=
  match state with
  | .priming => sPrime
  | .running => if h = 0 then 0 else invertCurve curve h
  | .disabled => 0
  | .parked => 0
  | .parking => 0
  | .faulted => 0

/-- A jet's power request in W (R140). -/
def powerRequest (power sReq : Nat) : Nat := power * sReq ^ 3 / 10 ^ 9

/-- The power factor k (R141). -/
def powerFactor (limit total : Nat) : Nat :=
  if limit = 0 then 1000 else if total ≤ limit then 1000 else 1000 * limit / total

/-- The largest integer up to a bound whose cube is at most n. -/
def cubeRootBelow : Nat → Nat → Nat
  | 0, _ => 0
  | c + 1, n => if (c + 1) ^ 3 ≤ n then c + 1 else cubeRootBelow c n

/-- c, the largest integer in 0 to 1,000 with c³ ≤ k × 10⁶ (R141). -/
def rootFactor (k : Nat) : Nat := cubeRootBelow 1000 (k * 10 ^ 6)

/-- Stage 4: the budgeted speed (R142). -/
def budgetedSpeed (state : PumpState) (sMin sReq c : Nat) : Nat :=
  let b := sReq * c / 1000
  if b < sMin ∧ state ≠ .priming then 0 else b

/-- Stage 5: the output speed under the acceleration limit (R143). -/
def outputSpeed (accel prev b : Nat) : Nat := if prev < b then min b (prev + accel) else b

/-- No jet rises yet: the show waits in ARMED, in a part whose jets do not rise there (R129). By R138 and R139 a pump that
has reached RUNNING in ARMED would follow its height there. The spec settles no order between the two, and which of them the
part keeps is free (DESIGN CHOICE, safe: log 37). -/
def jetsHeld (x : ShowState) : Bool := x == .armed && !Config.armedJetsRise

/-- Stages 1 to 3 for a jet, from the readings of the operation (R137, R138, R139): stage 2's height, or 0 while no jet
rises, goes to the curve inversion (R129, log 37). A PRIMING pump asks for S_PRIME either way. -/
def stageRequest (s : State) (wind : Nat) (j : Jet) : Nat :=
  let cfg := s.config.jets[j]
  let h := cappedHeight s.config cfg wind (natContextAt s.ltu.lt s.ctx.jets[j])
  requestedSpeed s.config.sPrime s.jets.pumps[j].state cfg.curve (if jetsHeld s.ctl.state then 0 else h)

/-- A pump record after stages 4 and 5 (R142, R143). -/
def drivenPump (s : State) (sReq c : Nat) (j : Jet) : Pump :=
  let p := s.jets.pumps[j]
  let cfg := s.config.jets[j]
  let b := budgetedSpeed p.state cfg.sMin sReq c
  { p with sReq := sReq, sB := b, sOut := outputSpeed cfg.accel p.sOut b }

/-- The Jet Drive Unit's computation at a control instant, after the park causes are judged (R137): every jet's
s_req, then R, T, k and c, then every jet's s_b and s_out, which are handed on. R183 judges the dry condition each time a
new s_out is handed over. The twelve are one act here, and the condition is judged once after it, so one pump that falls
below 300 while another rises in the same act leaves the timer running (DESIGN CHOICE, unsafe: log 38). -/
def driveCompute (s : State) : State :=
  let wind := effectiveWind s
  let heard := heardDemand s.config.feedGroup s.peers
  let reqs : Vector Nat 12 := Vector.ofFn fun j => stageRequest s wind j
  let total := ((List.finRange 12).map fun j => powerRequest s.config.jets[j].power reqs[j]).sum
  let k := powerFactor s.config.feedLimit (total + heard)
  let c := rootFactor k
  let pumps : Vector Pump 12 := Vector.ofFn fun j => drivenPump s reqs[j] c j
  let s := { s with jets := { s.jets with pumps := pumps, request := total, total := total + heard, k := k, c := c } }
  judgeDry .b (judgeDry .a (forJets (fun j s => handSpeed j s.jets.pumps[j].sOut s) s))

/-- Every pump is PARKED, DISABLED or FAULTED (R111). -/
def pumpsFinished (s : State) : Bool :=
  s.jets.pumps.toList.all fun p => p.state == .parked || p.state == .disabled || p.state == .faulted

end Sys2Proof.Machine
end

