-- ==== Sys2Proof/Machine/Show.lean ====
section
/-! DEFINITION. The Show Controller's whole acts (R94 to R114) that do not start a read: teardown, entry into ENDING,
end requests, arming failure, entry into and exit from SAFE; and the end of the start-up sequence (R190). -/

namespace Sys2Proof.Machine

/-- The show state set. -/
def setShow (x : ShowState) (s : State) : State := { s with ctl := { s.ctl with state := x } }

/-- The length of the armed show in LT counts (R60); 0 while there is none. -/
def armedLength (s : State) : Nat :=
  match s.flash.description with
  | some d => showLength d
  | none => 0

/-- LT less the start LT, as a signed difference (R95, R99); absent while the start LT is invalid. -/
def startOffset (s : State) : Option Int := s.ctl.startLt.map fun t => ltDiff s.ltu.lt t

/-- The audio position a (R164); absent while the start LT is invalid. -/
def audioPosition (s : State) : Option Int :=
  s.ctl.startLt.map fun t => (s.ltu.lt - t - BitVec.ofNat 32 s.config.audioDelay).toInt

/-- Teardown (R112): everything that belongs to one show goes, in one event. The caller names the state that follows.
The audio unit's opening record is dropped with its stream (R173). -/
def teardown (s : State) : State :=
  addCause .ending
    { s with
      cues := { s.cues with entries := [] }
      flash := teardownFlash s.flash
      ctx := restContexts s.ltu.lt
      ctl := { s.ctl with number := none, startLt := none, fadeEnd := none }
      audio := { s.audio with opening := none } }

/-- Teardown, then IDLE; the run permit is withdrawn with the state (R94). -/
def teardownToIdle (s : State) : State := refreshPriming (setShow .idle (teardown s))

/-- Entry into ENDING with fade f (R109). -/
def enterEnding (f : Nat) (s : State) : State :=
  let fadeEnd := s.ltu.lt + BitVec.ofNat 32 (Config.controlCounts * f)
  refreshPriming
    { s with
      ctl := { s.ctl with state := .ending, fadeEnd := some fadeEnd }
      flash := turnOff .cue s.flash
      cues := { s.cues with entries := [] }
      ctx := fadeContexts s.ltu.lt fadeEnd s.ctx }

/-- An end request in ENDING before its fade end: the fade end moves to the earlier, and the contexts are ramped
again if it moved (R100). -/
def shortenFade (f : Nat) (fadeEnd : LineTime) (s : State) : State :=
  let wanted := s.ltu.lt + BitVec.ofNat 32 (Config.controlCounts * f)
  if isAfter fadeEnd wanted then
    { s with
      ctl := { s.ctl with fadeEnd := some wanted }
      ctx := fadeContexts s.ltu.lt wanted s.ctx }
  else s

/-- The fade end of ENDING has been reached (R100): LT is at or after it, or R111 has set END. Once END is set a step back
before the fade end takes nothing back; before that the present LT decides (DESIGN CHOICE, unsafe: log 36). -/
def fadeEnded (fadeEnd : LineTime) (s : State) : Bool := s.jets.causes.ending || atOrAfter s.ltu.lt fadeEnd

/-- An end request with a fade, by the state in which it arrives (R100). -/
def endRequest (f : Nat) (s : State) : State :=
  match s.ctl.state with
  | .running => enterEnding f s
  | .ending =>
    match s.ctl.fadeEnd with
    | some e => if fadeEnded e s then s else shortenFade f e s
    | none => s
  | .arming => teardownToIdle s
  | .armed => teardownToIdle s
  | .idle => s
  | .safe => s

/-- An arming failure (R104): ARM_FAIL latches, then teardown and IDLE. -/
def armFail (s : State) : State := teardownToIdle (latch .armFail s)

/-- Entry into SAFE (R113): teardown, state SAFE, pumps forced PARKED, lights at SAFE_LIGHT, audio zero. -/
def enterSafe (s : State) : State :=
  let s := refreshPriming (setShow .safe (teardown s))
  let s := computeLights (forJets forceParked s)
  { s with audio := { s.audio with left := 0#16, right := 0#16 } }

/-- SAFE left for IDLE (R114, R160): the join record is emptied and the lights are computed afresh. -/
def leaveSafe (s : State) : State :=
  let s := setShow .idle s
  computeLights { s with ctl := { s.ctl with join := none } }

/-- What entry into ARMING for show n does in its event before the directory is read (R102). -/
def enterArming (n : Nat) (s : State) : State :=
  removeCause .ending
    { s with
      ctl := { s.ctl with state := .arming, number := some n, startLt := none, armStep := 1 }
      flash := { emptyCache s.flash with armDemand := none }
      ctx := restContexts s.ltu.lt }

/-- The four pages after the AUDIO reader's start page that are held in slots, of either stream (R86). -/
def startWindowHeld (s : State) : Nat :=
  match s.flash.audio.page with
  | none => 0
  | some p =>
    ((List.range 4).filter fun k => slotIds.any fun i => (s.flash.slots[i]).holds (p.flashPage + 1 + k)).length

/-! ### The end of the start-up sequence (R190, R192) -/

/-- The DRY_STATION condition: station number 0, or every jet DISABLED (R192). -/
def dryCase (station : Nat) (c : Configuration) : Bool :=
  station == 0 || c.jets.toList.all fun j => !j.enable

/-- A pump record as the configuration in use sets it (R136). -/
def startPump (station : Nat) (j : JetConfig) : Pump :=
  Pump.start (if j.enable && station != 0 then .parked else .disabled)

/-- An input leaves warm-up (R176). -/
def warmedHealth (r : InputRecord) : Health :=
  match r.health with
  | .notReady => if r.bad = 10 then .failed else .ready
  | .ready => .ready
  | .failed => .failed

/-- The fault source an input's entry into FAILED latches (R176). -/
def sensorSource : AnalogInput → FaultSource
  | .wind => .windSensor
  | .level => .levelSensor
  | .pressA => .pressSensor
  | .pressB => .pressSensor

/-- An input's record replaced. -/
def setInput (i : AnalogInput) (r : InputRecord) (s : State) : State :=
  { s with sensors := { s.sensors with inputs := s.sensors.inputs.put i r } }

/-- One input at the end of the warm-up (R176): entry into FAILED latches its source. -/
def warmInput (i : AnalogInput) (s : State) : State :=
  let r := s.sensors.inputs.get i
  let h := warmedHealth r
  let s := setInput i { r with health := h } s
  if r.health = .notReady ∧ h = .failed then latch (sensorSource i) s else s

/-- The end of the warm-up for all four inputs (R176). A pressure input that becomes READY has its dry condition
judged at its next sample (R177). -/
def endWarmUp (s : State) : State :=
  let s := warmInput .pressB (warmInput .pressA (warmInput .level (warmInput .wind s)))
  { s with sensors := { s.sensors with warmUp := none } }

/-- Each block starts from the configuration in use (R190): pumps, sensors, interlocks, lamp, beacon schedule.
The first beacon point lies 2^k + j ms on, j drawn from 0 to 7 (R41). -/
def startBlocks (s : State) : State :=
  let c := s.config
  let jitter := draw 8 s
  let s := afterDraw s
  let s :=
    { s with
      phase := .running
      dryStation := dryCase s.station c
      jets := { State.reset.jets with pumps := Vector.ofFn fun j => startPump s.station c.jets[j] }
      sensors := { State.reset.sensors with
        filtered := c.wHigh, bins := Vector.replicate 10 c.wHigh, warmUp := some (c.warmUp * 1000) }
      lamp := { s.lamp with due := true, heldBack := false, sending := none }
      ltu := { s.ltu with beaconTimer := some (2 ^ c.beaconK + jitter) } }
  if c.warmUp = 0 then endWarmUp s else s

/-- Step 3 of the start-up sequence (R190): the block that passes becomes the configuration in use, or the default does
and CONFIG_DEFAULT latches; then every block starts. -/
def configurationTaken (content : PageContent) (s : State) : State :=
  match takeConfiguration content.data content.verdicts with
  | some c => startBlocks { s with config := c }
  | none => startBlocks (latch .configDefault { s with config := defaultConfiguration })

end Sys2Proof.Machine
end

