-- ==== Sys2Proof/Machine/Streams.lean ====
section
/-! DEFINITION. What happens inside one event of the Flash Stream Engine and the Show Controller, as tasks.

An event is whole (spec/95). Where a rule makes one act lead to the next (a page arrives, its lookups complete, a stream
asks for its window, a demand hits, a reader opens a page, a show ends), the act is a `Task`: it changes the state and
names the tasks that follow from it, which are done before anything after it (R66 to R70, R76 to R92, R99 to R107,
R117 to R119, R164 to R170). -/

namespace Sys2Proof.Machine

/-- An act inside an event. -/
inductive Task where
  /-- A demand presented (R79). -/
  | demand (who : Requester) (page : Nat)
  /-- A prefetch presented (R79). -/
  | prefetch (purpose : Purpose) (stream : Option StreamId) (page : Nat)
  /-- A pending demand presented again (R80). -/
  | present (who : Requester)
  /-- Every pending demand presented again, if a slot became FREE in the event (R80). -/
  | represent
  /-- The page of a stream's reader goes from FILLED to IN_USE if it is there (R78). -/
  | occupy (x : StreamId)
  /-- A page taken by the start-up sequence, the ARMING sequence or the cache (R76, R81). -/
  | handed (purpose : Purpose) (page : Nat) (content : PageContent)
  /-- A lookup made (R66). -/
  | lookup (l : Lookup)
  /-- A lookup whose index page is held completes (R66, R67). -/
  | complete (l : Lookup)
  /-- A discarded INDEX read has retired: lookups that waited on it ask anew (R66). -/
  | retryIndex (page : Nat)
  /-- The index page after a segment's is prefetched (R68). -/
  | indexAhead (segment : Nat)
  /-- A stream started at a position; the CUE reader in catch-up or not (R85, R105). -/
  | startStream (x : StreamId) (position : Nat) (catchUp : Option Int)
  /-- The start window requested (R85). -/
  | begin (x : StreamId) (position : Nat)
  /-- Prefetches for a stream's window (R90). -/
  | window (x : StreamId)
  /-- A start-of-page judged (R89). -/
  | startOfPage (x : StreamId)
  /-- The AUDIO reader follows the audio position (R87, R91). -/
  | moveAudio (a : Int)
  /-- The AUDIO reader enters the segment that has become current (R91). -/
  | enterAudio
  /-- The early demand at frame 400 (R92). -/
  | earlyDemand (a : Int)
  /-- The audio position reaching the end of the LAST segment (R110, R164). -/
  | showEnd (a : Int)
  /-- The frame for the period that begins (R165). -/
  | formFrame (a : Int)
  /-- The CUE reader crosses a segment boundary (R91). -/
  | crossCue
  /-- The CUE reader enters the segment that has become current (R88, R91). -/
  | enterCue
  /-- The CUE reader's page judged on its verdict (R119). -/
  | judgeCue
  /-- The read point moves on (R88, R117). -/
  | advanceCue
  /-- Catch-up goes on while the reader's page is there (R106). -/
  | catchUp
  /-- An end request (R100). -/
  | endShow (fade : Nat)
  /-- The run permit given, the fifth step of ARMING (R103). -/
  | permit
  /-- ARMED is entered when the start window is held (R103). -/
  | checkArmed
  /-- The pending start tested (R99). -/
  | startTest
  /-- A seek (R105). -/
  | seek (q : Int)
  /-- A re-seek request (R107). -/
  | reSeek
deriving DecidableEq, Repr

/-- A state, and the tasks that follow at once. -/
abbrev Act := State × List Task

/-- A change of the engine inside the state. -/
def onFlash (g : FlashEngine → FlashEngine) (s : State) : State := { s with flash := g s.flash }

/-! ### Demands and prefetches (R79 to R81) -/

/-- The purpose a requester's demand carries (R71). -/
def requesterPurpose : Requester → Purpose
  | .startUp => .config
  | .arming p => p
  | .index _ => .index
  | .stream x => streamPurpose x

/-- The stream a requester's demand belongs to (R71). -/
def requesterStream : Requester → Option StreamId
  | .stream x => some x
  | .startUp => none
  | .arming _ => none
  | .index _ => none

/-- A rejected demand is held by its requester, in place of an older one (R80). -/
def holdDemand (r : Requester) (page : Nat) (f : FlashEngine) : FlashEngine :=
  match r with
  | .startUp => f
  | .arming p => { f with armDemand := some (p, page) }
  | .index i => if f.indexDemands.contains i then f else { f with indexDemands := f.indexDemands ++ [i] }
  | .stream x => onStream x (fun r => { r with pendingDemand := some page }) f

/-- A requester's pending demand ends when it is taken (R80); a stream's pending demand for another page stays. -/
def dropDemand (r : Requester) (page : Nat) (f : FlashEngine) : FlashEngine :=
  match r with
  | .startUp => f
  | .arming _ => { f with armDemand := none }
  | .index i => { f with indexDemands := f.indexDemands.filter (· != i) }
  | .stream x => onStream x (endDemandFor [page]) f

/-- The flash page of index page i of the armed show (R63). -/
def indexFlashPage (i : Nat) (s : State) : Option Nat := s.flash.description.map fun d => d.firstIndex + i

/-- A hit (R81): a stream gets the slot with its mark; any other user takes the page at once and the slot is FREE. -/
def takeHit (r : Requester) (page : Nat) (i : Fin 16) (s : State) : Act :=
  match s.flash.slots[i] with
  | .filled p _ content mark =>
    match r with
    | .stream x =>
      (onFlash (fun f => dropDemand r page (putSlot i (.filled p (some x) content mark) f)) s, [.occupy x])
    | .startUp => (onFlash (fun f => dropDemand r page (freeSlot i f)) s, [.handed (requesterPurpose r) page content])
    | .arming _ => (onFlash (fun f => dropDemand r page (freeSlot i f)) s, [.handed (requesterPurpose r) page content])
    | .index _ => (onFlash (fun f => dropDemand r page (freeSlot i f)) s, [.handed (requesterPurpose r) page content])
  | .free => (s, [])
  | .reserved _ _ => (s, [])
  | .inUse _ _ _ _ => (s, [])

/-- A rejected demand: counted and held (R80). It is noted as rejected in the event in hand (log 6). -/
def rejectDemand (r : Requester) (page : Nat) (s : State) : State :=
  onFlash (fun f => holdDemand r page { f with heldNow := r :: f.heldNow })
    { s with counters := { s.counters with demandReject := bump s.counters.demandReject } }

/-- A request of a stream that an earlier act of the event has turned OFF is not made (R86). -/
def requestStands (stream : Option StreamId) (s : State) : Bool :=
  match stream with
  | some x => (streamOf x s.flash).on
  | none => true

/-- A demand presented (R79). The early demand of R92 may come while the current page's demand is pending: taken, it leaves
that one pending; rejected, it takes its place, since R80 lets a requester hold one demand only (DESIGN CHOICE, unsafe:
log 34). -/
def doDemand (r : Requester) (page : Nat) (s : State) : Act :=
  if requestStands (requesterStream r) s then
    let result := intake { page := page, purpose := requesterPurpose r, kind := .demand, stream := requesterStream r }
      s.flash
    match result.2 with
    | .hit i => takeHit r page i s
    | .taken => ({ s with flash := dropDemand r page result.1 }, [])
    | .rejected => (rejectDemand r page { s with flash := result.1 }, [])
    | .dropped => (s, [])
  else (s, [])

/-- A prefetch presented (R79): it has no requester and leaves no trace when dropped. -/
def doPrefetch (purpose : Purpose) (stream : Option StreamId) (page : Nat) (s : State) : Act :=
  if requestStands stream s then
    ({ s with flash := (intake { page := page, purpose := purpose, kind := .prefetch, stream := stream } s.flash).1 }, [])
  else (s, [])

/-- A pending demand presented again as a new request (R80); one first rejected in the event in hand is not (log 6). -/
def doPresent (r : Requester) (s : State) : Act :=
  if s.flash.heldNow.contains r then (s, []) else
  match r with
  | .startUp => (s, [])
  | .arming p =>
    match s.flash.armDemand with
    | some (q, page) => if q = p then (s, [.demand r page]) else (s, [])
    | none => (s, [])
  | .index i =>
    match indexFlashPage i s with
    | some page => if s.flash.indexDemands.contains i then (s, [.demand r page]) else (s, [])
    | none => (s, [])
  | .stream x =>
    match (streamOf x s.flash).pendingDemand with
    | some page => (s, [.demand r page])
    | none => (s, [])

/-- A number put at the end of a list that does not hold it. -/
def addOnce (seen : List Nat) (i : Nat) : List Nat := if seen.contains i then seen else seen ++ [i]

/-- The index pages with a pending demand, in the order of their first waiting lookups (R80). -/
def pendingIndexOrder (f : FlashEngine) : List Nat :=
  ((f.lookups.map Lookup.indexPage).filter fun i => f.indexDemands.contains i).foldl addOnce []

/-- All pending demands, in class order (R80): class 0 first, then AUDIO, then CUE. -/
def doRepresent (s : State) : Act :=
  if s.flash.slotFreed then
    (onFlash (fun f => { f with slotFreed := false }) s,
      [.present (.arming .directory), .present (.arming .header)] ++
      (pendingIndexOrder s.flash).map (fun i => .present (.index i)) ++
      [.present (.stream .audio), .present (.stream .cue)])
  else (s, [])

/-! ### Readers taking pages (R78, R89, R90, R119, R168) -/

/-- The opening record of an audio page (R168): silenced whole when sector 0 FAILED or the identity is another's. -/
def openingOf (content : PageContent) (identity : Bool) : Opening :=
  let v := content.verdicts
  if !verdictGood v.sector0 || !identity then ⟨true, true, true, true⟩
  else ⟨false, !verdictGood v.sector1, !verdictGood v.sector2, !verdictGood v.sector3⟩

/-- An audio page opened (R168): ECC_FAIL latches for a FAILED sector, PAGE_ID for a readable identity that is not
the reader's place. -/
def openPage (content : PageContent) (p : ReaderPage) (s : State) : State :=
  let number := match s.flash.description with
    | some d => d.number
    | none => 16
  let identity := audioIdentityOk content.data number p.segment p.index
  let s := { s with audio := { s.audio with opening := some (openingOf content identity) } }
  let s := if pageGood content.verdicts then s else latch .eccFail s
  if verdictGood content.verdicts.sector0 && !identity then latch .pageId s else s

/-- The page of a stream's reader goes IN_USE if it is FILLED in a slot of the stream (R78): an audio page is then
opened, a cue page judged, and catch-up goes on with it. A demand for the page that is still pending has what it asked for
and ends (log 24). -/
def doOccupy (x : StreamId) (s : State) : Act :=
  match (streamOf x s.flash).page with
  | none => (s, [])
  | some p =>
    match findSlot (Slot.isFilledFor x p.flashPage) s.flash with
    | none => (s, [])
    | some i =>
      match s.flash.slots[i] with
      | .filled q y content mark =>
        let s := onFlash (fun f => onStream x (endDemandFor [q]) (putSlot i (.inUse q y content mark) f)) s
        match x with
        | .audio => (openPage content p s, [])
        | .cue => (s, [.judgeCue, .catchUp])
      | .free => (s, [])
      | .reserved _ _ => (s, [])
      | .inUse _ _ _ _ => (s, [])

/-- The flash pages of a segment's run for a stream, from an index within the run on (R61, R64, R90). -/
def runPages (x : StreamId) (e : IndexEntry) (start : Nat) : List Nat :=
  match x with
  | .audio => (List.range (Config.segmentPages - start)).map fun k => e.firstAudio + start + k
  | .cue => (List.range (cuePageCount e - start)).map fun k => e.firstCuePage + start + k

/-- The pages after the reader's in the current segment; none where the reader's page is not of that segment. -/
def restOfSegment (x : StreamId) (r : StreamRecord) : List Nat :=
  match r.current, r.page with
  | some c, some p => if c.segment = p.segment then runPages x c.entry (p.index + 1) else []
  | _, _ => []

/-- The pages of the next segment in reading order; a cue page shared with the current segment's end counts once
(R88, R90). -/
def nextSegmentPages (x : StreamId) (r : StreamRecord) : List Nat :=
  match r.current, r.next with
  | some c, some n =>
    let pages := runPages x n.entry 0
    match x with
    | .audio => pages
    | .cue => pages.filter fun p => !(cuePageCount c.entry ≠ 0 && p == c.entry.firstCuePage + (cuePageCount c.entry - 1))
  | _, _ => []

/-- The stream's reader is on a page of its current segment. -/
def onCurrent (r : StreamRecord) : Bool :=
  match r.current, r.page with
  | some c, some p => c.segment == p.segment
  | _, _ => false

/-- A lookup of a stream waits (R66). -/
def lookupWaits (x : StreamId) (f : FlashEngine) : Bool := f.lookups.any fun l => l.who == .stream x

/-- The prefetches of a stream's window, and the lookup of the next segment where the window reaches beyond the
current one and no next segment record is held (R90). -/
def doWindow (x : StreamId) (s : State) : Act :=
  let r := streamOf x s.flash
  if onCurrent r then
    let rest := restOfSegment x r
    let pages := (rest ++ nextSegmentPages x r).take r.depth
    let prefetches := pages.map fun p => Task.prefetch (streamPurpose x) (some x) p
    let ask : List Task :=
      match r.current with
      | some c =>
        if rest.length < r.depth ∧ r.next = none ∧ r.stopped = false ∧ lookupWaits x s.flash = false
        then [.lookup { who := .stream x, segment := c.segment + 1, use := .next }] else []
      | none => []
    (s, prefetches ++ ask)
  else (s, [])

/-- How a start-of-page is judged (R89). -/
inductive Judgement where
  | confirmation | neither | miss
deriving DecidableEq, Repr

/-- The judgement of a page the reader of stream x has just taken (R89). -/
def judgePage (x : StreamId) (page : Nat) (f : FlashEngine) : Judgement :=
  match findSlot (Slot.isFilledFor x page) f with
  | some i => if (f.slots[i]).prefetched then .confirmation else .neither
  | none =>
    match entryFor page f with
    | some e => if e.discard then .miss else if e.kind = .prefetch then .confirmation else .neither
    | none => .miss

/-- Depth after a judgement (R89). -/
def judgedDepth (x : StreamId) (j : Judgement) (depth : Nat) : Nat :=
  match j with
  | .confirmation => min (depth + 1) (maxDepth x)
  | .neither => depth
  | .miss => 2

/-- A start-of-page (R89, R90): the depth moves; a FILLED page goes IN_USE, a page found in a prefetch entry or
missing is demanded; then the window. -/
def doStartOfPage (x : StreamId) (s : State) : Act :=
  match (streamOf x s.flash).page with
  | none => (s, [])
  | some p =>
    let j := judgePage x p.flashPage s.flash
    let filled := (findSlot (Slot.isFilledFor x p.flashPage) s.flash).isSome
    let s' := onFlash (onStream x fun r => { r with depth := judgedDepth x j r.depth }) s
    let act : List Task :=
      if filled then [.occupy x]
      else match j with
        | .neither => []
        | .confirmation => [.demand (.stream x) p.flashPage]
        | .miss => [.demand (.stream x) p.flashPage]
    (s', act ++ [.window x])

/-! ### Lookups and the Show Index Cache (R63 to R70) -/

/-- The stream of a lookup takes no further segment record (R69; log 7). -/
def stopStream (x : StreamId) (f : FlashEngine) : FlashEngine := onStream x (fun r => { r with stopped := true }) f

/-- The streams of some lookups stop. -/
def stopLookers (ls : List Lookup) (f : FlashEngine) : FlashEngine :=
  ls.foldl (fun f l => match l.who with
    | .stream x => stopStream x f
    | .arming => f) f

/-- The stream a lookup is made for. -/
def lookerStream : Looker → Option StreamId
  | .arming => none
  | .stream x => some x

/-- A lookup made (R66). -/
def doLookup (l : Lookup) (s : State) : Act :=
  match s.flash.description with
  | none => (s, [])
  | some d =>
    if requestStands (lookerStream l.who) s = false then (s, [])
    else if d.segments ≤ l.segment then (onFlash (stopLookers [l]) s, [])
    else
      let i := l.indexPage
      let page := d.firstIndex + i
      let s := onFlash (fun f => { f with lookups := f.lookups ++ [l] }) s
      if (cachedPage i s.flash).isSome then (s, [.complete l])
      else
        match s.flash.queue.find? fun e => e.page == page && e.purpose == .index with
        | some e => if e.discard || e.kind == .demand then (s, []) else (s, [.demand (.index i) page])
        | none => (s, [.demand (.index i) page])

/-- A final index failure or a bad entry (R69): in ARMING for the show's start it is ARM_FAIL; otherwise INDEX_FAIL
latches and the show is asked to end with a fade of 300. -/
def indexFailure (ofStart : Bool) (s : State) : Act :=
  if s.ctl.state = .arming ∧ ofStart then (armFail s, []) else (latch .indexFail s, [.endShow 300])

/-- The audio position of a playing show lies at or beyond the end of the LAST segment: from then on the AUDIO reader has no
page and its stream issues no request (R87). -/
def audioPastEnd (s : State) : Bool :=
  (s.ctl.state == .running || s.ctl.state == .ending) &&
    (audioPosition s).any fun a => decide ((armedLength s : Int) ≤ a)

/-- A good segment record reaches its stream, and what the stream then asks for (R85, R90, R91); nothing, for an AUDIO stream
whose position lies beyond the show (R87). -/
def recordArrives (x : StreamId) (rec : SegmentRecord) (use : LookupUse) (s : State) : Act :=
  let act : Act := match use with
    | .start position =>
      (onFlash (onStream x fun r => { r with current := some rec, next := none }) s,
        [.indexAhead rec.segment, .begin x position, .window x])
    | .next => (onFlash (onStream x fun r => { r with next := some rec }) s, [.window x])
    | .crossing =>
      (onFlash (onStream x fun r => { r with current := some rec, next := none }) s,
        [.indexAhead rec.segment, match x with
          | .audio => .enterAudio
          | .cue => .enterCue, .window x])
    | .arming => (s, [])
  (act.1, if x = .audio ∧ audioPastEnd s = true then [] else act.2)

/-- A lookup whose index page is held completes (R63, R66, R67, R103); one cancelled meanwhile does not. -/
def doComplete (l : Lookup) (s : State) : Act :=
  if s.flash.lookups.contains l then
    let s := onFlash (fun f => { f with lookups := f.lookups.erase l }) s
    match s.flash.description, cachedPage l.indexPage s.flash with
    | some d, some page =>
      match l.who with
      | .arming =>
        ({ s with ctl := { s.ctl with armStep := 4 } },
          [.startStream .audio 0 none, .startStream .cue 0 none, .permit])
      | .stream x =>
        let e := page.entryOf l.segment
        if entryGood l.segment d.segments e then recordArrives x { segment := l.segment, entry := e } l.use s
        else indexFailure (l.segment == 0) (onFlash (stopStream x) s)
    | _, _ => (s, [])
  else (s, [])

/-- An INDEX read hands its page to the cache (R67, R69). -/
def indexArrived (page : Nat) (content : PageContent) (s : State) : Act :=
  match s.flash.description with
  | none => (s, [])
  | some d =>
    let i := page - d.firstIndex
    let waiting := s.flash.lookups.filter fun l => l.indexPage == i
    if pageGood content.verdicts then
      (onFlash (fun f => dropDemand (.index i) page (storeIndexPage i (parseIndexPage content.data) f)) s,
        waiting.map .complete)
    else if s.flash.failMarks.contains i then
      indexFailure (i == 0)
        (onFlash (fun f => stopLookers waiting (cancelLookups (fun l => l.indexPage == i) f)) s)
    else
      (onFlash (fun f => { f with failMarks := f.failMarks ++ [i] }) s,
        [if waiting.isEmpty then .prefetch .index none page else .demand (.index i) page])

/-- The directory page handed to the ARMING sequence (R58, R103). -/
def directoryTaken (content : PageContent) (s : State) : Act :=
  match s.ctl.number with
  | none => (s, [])
  | some n =>
    match directoryEntry content n with
    | some page => ({ s with ctl := { s.ctl with armStep := 2 } }, [.demand (.arming .header) page])
    | none => (armFail s, [])

/-- The header page handed to the ARMING sequence (R59, R60, R103). -/
def headerTaken (content : PageContent) (s : State) : Act :=
  match s.ctl.number with
  | none => (s, [])
  | some n =>
    match headerDescription content n with
    | some d =>
      ({ s with ctl := { s.ctl with armStep := 3 }, flash := { s.flash with description := some d } },
        [.lookup { who := .arming, segment := 0, use := .arming }])
    | none => (armFail s, [])

/-- A page handed to a user other than a stream (R76, R81). -/
def doHanded (purpose : Purpose) (page : Nat) (content : PageContent) (s : State) : Act :=
  match purpose with
  | .config => if s.phase = .startUp then (configurationTaken content s, []) else (s, [])
  | .directory => if s.ctl.state = .arming then directoryTaken content s else (s, [])
  | .header => if s.ctl.state = .arming then headerTaken content s else (s, [])
  | .index => indexArrived page content s
  | .audio => (s, [])
  | .cue => (s, [])

/-- A discarded INDEX read has retired: the lookups that waited on its page make a new request (R66). -/
def doRetryIndex (page : Nat) (s : State) : Act :=
  match s.flash.description with
  | none => (s, [])
  | some d =>
    if d.firstIndex ≤ page ∧ (s.flash.lookups.any fun l => l.indexPage == page - d.firstIndex)
    then (s, [.demand (.index (page - d.firstIndex)) page]) else (s, [])

/-- The index page after the segment's is prefetched from entry 96 on (R68). -/
def doIndexAhead (segment : Nat) (s : State) : Act :=
  match s.flash.description with
  | none => (s, [])
  | some d =>
    let i := segment / Config.recordsPerPage + 1
    let page := d.firstIndex + i
    if 96 ≤ segment % Config.recordsPerPage ∧ i < d.indexPages ∧ (cachedPage i s.flash).isNone ∧
        (s.flash.queue.any fun e => e.page == page && e.purpose == .index) = false
    then (s, [.prefetch .index none page]) else (s, [])

/-! ### Starting streams (R85) -/

/-- The show state lets a stream be ON (R84, R109): the AUDIO stream's lookup may have ended the show before the CUE
stream of the same arming or seek is started. -/
def streamMayStart (x : StreamId) (show_ : ShowState) : Bool :=
  match show_, x with
  | .arming, _ => true
  | .armed, _ => true
  | .running, _ => true
  | .ending, .audio => true
  | .ending, .cue => false
  | .idle, _ => false
  | .safe, _ => false

/-- A stream started at a position (R85). -/
def doStartStream (x : StreamId) (position : Nat) (catchUp : Option Int) (s : State) : Act :=
  if streamMayStart x s.ctl.state then
    let s := onFlash (putStream x { StreamRecord.off with on := true }) s
    let s := match x with
      | .audio => s
      | .cue => onFlash (fun f => { f with reader := { CueReader.cleared with catchUp := catchUp } }) s
    (s, [.lookup { who := .stream x, segment := position / Config.segmentCounts, use := .start position }])
  else (s, [])

/-- The page of a position within its segment (R61). -/
def audioPageOf (position : Nat) : Nat := position % Config.segmentCounts / Config.pageFrames

/-- The start window (R85): the start page as a demand, then prefetches up to the maximum depth less 2, cut at the
segment's end. -/
def doBegin (x : StreamId) (position : Nat) (s : State) : Act :=
  match (streamOf x s.flash).current with
  | none => (s, [])
  | some c =>
    if x = .cue ∧ c.entry.cueCount = 0 then (s, [.crossCue])
    else
      let index := match x with
        | .audio => audioPageOf position
        | .cue => 0
      let first := match x with
        | .audio => c.entry.firstAudio + index
        | .cue => c.entry.firstCuePage
      let place : ReaderPage := { segment := c.segment, index := index, flashPage := first }
      let ahead := (runPages x c.entry (index + 1)).take (maxDepth x - 2)
      (onFlash (onStream x fun r => { r with page := some place, early := false }) s,
        .demand (.stream x) first :: ahead.map fun p => .prefetch (streamPurpose x) (some x) p)

/-! ### The AUDIO reader (R87, R91, R92) -/

/-- The AUDIO reader off its page (R78, R87, R168): its slot FREE, a pending demand for it and its opening record gone. -/
def leaveAudio (s : State) : State :=
  match s.flash.audio.page with
  | none => s
  | some p =>
    { s with
      flash := onStream .audio (fun r => endDemandFor [p.flashPage] { r with page := none })
        (leavePage .audio p.flashPage s.flash)
      audio := { s.audio with opening := none } }

/-- A stream's pending demand for any page but one ends: its requester has moved on to need that one (R80; log 24). -/
def keepDemandFor (page : Nat) (r : StreamRecord) : StreamRecord :=
  { r with pendingDemand := r.pendingDemand.filter fun p => p == page }

/-- The AUDIO reader takes a page of its current segment as its current page (R87). -/
def takeAudioPage (c : SegmentRecord) (index : Nat) (s : State) : Act :=
  let place : ReaderPage := { segment := c.segment, index := index, flashPage := c.entry.firstAudio + index }
  (onFlash (onStream .audio fun r => keepDemandFor place.flashPage { r with page := some place, early := false }) s,
    [.startOfPage .audio])

/-- The pages of a segment from an index up to another are abandoned (R87). -/
def abandonAudio (c : SegmentRecord) (start stop : Nat) (s : State) : State :=
  onFlash (abandonPages ((runPages .audio c.entry start).take (stop - start))) s

/-- A waiting lookup of a stream becomes that of a crossing: the record will become current at once (R91). -/
def lookupCrosses (x : StreamId) (f : FlashEngine) : FlashEngine :=
  { f with lookups := f.lookups.map fun l =>
      if l.who = .stream x ∧ l.use = .next then { l with use := .crossing } else l }

/-- A reader at the end of its segment (R91): the next segment record becomes current and the reader enters it; or the
reader waits on its lookup, or makes it; or the show has no further segment. -/
def crossSegment (x : StreamId) (c : SegmentRecord) (enter : Task) (s : State) : Act :=
  let r := streamOf x s.flash
  match r.next with
  | some n =>
    (onFlash (onStream x fun r => { r with current := some n, next := none }) s, [.indexAhead n.segment, enter])
  | none =>
    if r.stopped then (s, [])
    else if lookupWaits x s.flash then (onFlash (lookupCrosses x) s, [])
    else (s, [.lookup { who := .stream x, segment := c.segment + 1, use := .crossing }])

/-- The AUDIO reader crosses out of a segment whose pages from an index on it has not taken (R87, R91). They are abandoned at
the crossing, also where the next segment's record is not held and the reader has no page to take yet (DESIGN CHOICE, unsafe:
log 45). -/
def crossAudio (c : SegmentRecord) (start : Nat) (s : State) : Act :=
  crossSegment .audio c .enterAudio (abandonAudio c start Config.segmentPages (leaveAudio s))

/-- The AUDIO reader follows an audio position (R87). A reader without a current page waits for a segment record, or has
read its last page; beyond the show its stream asks for nothing more. -/
def doMoveAudio (a : Int) (s : State) : Act :=
  if (armedLength s : Int) ≤ a then
    (onFlash (onStream .audio fun r => { r with pendingDemand := none }) (leaveAudio s), [])
  else if a < 0 then (s, [])
  else
    let segment := a.toNat / Config.segmentCounts
    let index := audioPageOf a.toNat
    match s.flash.audio.current, s.flash.audio.page with
    | some c, some p =>
      if c.segment < segment then crossAudio c (p.index + 1) s
      else if c.segment = segment ∧ p.index < index then
        takeAudioPage c index (abandonAudio c (p.index + 1) index (leaveAudio s))
      else (s, [])
    | _, _ => (s, [])

/-- The page of a segment at which a reader that enters it begins: the one that holds the audio position, or its first
where a step back has put the position before the segment (DESIGN CHOICE, unsafe: log 41). -/
def entryPage (segment : Nat) (a : Int) : Nat :=
  if a < segment * Config.segmentCounts then 0 else audioPageOf a.toNat

/-- The AUDIO reader enters the segment that has become current: it takes the page that holds the audio position as it
stands, or crosses on where the position lies further (R91). -/
def doEnterAudio (s : State) : Act :=
  match s.flash.audio.current, audioPosition s with
  | some c, some a =>
    if (c.segment + 1 : Nat) * Config.segmentCounts ≤ a then crossAudio c 0 s
    else takeAudioPage c (entryPage c.segment a) (abandonAudio c 0 (entryPage c.segment a) s)
  | _, _ => (s, [])

/-- The page that follows the AUDIO reader's in reading order (R92). -/
def followingAudioPage (r : StreamRecord) : Option Nat := (restOfSegment .audio r ++ nextSegmentPages .audio r).head?

/-- The page is neither FILLED nor named by an entry with discard clear (R92). -/
def pageMissing (page : Nat) (f : FlashEngine) : Bool :=
  (findSlot (Slot.isFilled page) f).isNone &&
    match entryFor page f with
    | some e => e.discard
    | none => true

/-- The early demand: once for a page, when the position reaches frame 400 of it (R92; log 14). -/
def doEarlyDemand (a : Int) (s : State) : Act :=
  let r := s.flash.audio
  match r.page with
  | none => (s, [])
  | some p =>
    if 0 ≤ a ∧ a < armedLength s ∧ p.segment = a.toNat / Config.segmentCounts ∧ p.index = audioPageOf a.toNat ∧
        400 ≤ a.toNat % Config.pageFrames ∧ r.early = false then
      let s := onFlash (onStream .audio fun r => { r with early := true }) s
      match followingAudioPage r with
      | some q =>
        if pageMissing q s.flash then
          (onFlash (onStream .audio fun r => { r with depth := 2 }) s, [.demand (.stream .audio) q])
        else (s, [])
      | none => (s, [])
    else (s, [])

/-- The audio position at or after the end of the LAST segment in RUNNING is an end request with fade 100 (R110, R164). -/
def doShowEnd (a : Int) (s : State) : Act :=
  if s.ctl.state = .running ∧ (armedLength s : Int) ≤ a then (s, [.endShow 100]) else (s, [])

/-! ### The frame sent to I2S (R165 to R170) -/

/-- A sample scaled by the gain, rounded toward minus infinity (R167). -/
def scaleSample (sample : BitVec 16) (g : Nat) : BitVec 16 := BitVec.ofInt 16 (Int.fdiv (sample.toInt * g) 256)

/-- A frame whose two samples are sent; the run count is set to 0 (R170). -/
def sendFrame (left right : BitVec 16) (s : State) : State :=
  { s with audio := { s.audio with left := left, right := right, run := 0 } }

/-- An underrun frame: zero, counted; a run reaching 4,800 latches AUDIO_UNDERRUN (R170). -/
def underrunFrame (s : State) : State :=
  let run := min (s.audio.run + 1) 4800
  let s' :=
    { s with
      audio := { s.audio with left := 0#16, right := 0#16, run := run }
      counters := { s.counters with underrunFrames := bump s.counters.underrunFrames } }
  if s.audio.run < 4800 ∧ run = 4800 then latch .audioUnderrun s' else s'

/-- A sector is silenced by the opening record (R169). -/
def silenced (o : Option Opening) (sector : Nat) : Bool :=
  match o with
  | none => false
  | some o =>
    match sector with
    | 0 => o.sector0
    | 1 => o.sector1
    | 2 => o.sector2
    | _ => o.sector3

/-- The content of the page that holds an audio position, if the AUDIO reader is on it and its slot is IN_USE (R165). -/
def playingPage (a : Nat) (f : FlashEngine) : Option PageContent :=
  match f.audio.page with
  | none => none
  | some p =>
    if p.segment = a / Config.segmentCounts ∧ p.index = audioPageOf a then
      (findSlot (Slot.isInUseFor .audio p.flashPage) f).bind fun i => (f.slots[i]).content
    else none

/-- The frame of a position inside the show, from the page that holds it (R165, R166, R167, R169). -/
def playFrame (a : Nat) (s : State) : State :=
  match playingPage a s.flash with
  | none => underrunFrame s
  | some content =>
    let frame := a % Config.pageFrames
    if silenced s.audio.opening (sectorOfFrame frame) then sendFrame 0#16 0#16 s
    else
      let g := natContextAt s.ltu.lt s.ctx.gain
      sendFrame (scaleSample (sampleAt content.data (48 + 4 * frame)) g)
        (scaleSample (sampleAt content.data (50 + 4 * frame)) g) s

/-- The frame for the period that begins, in RUNNING and ENDING (R165). -/
def doFormFrame (a : Int) (s : State) : Act :=
  if (s.ctl.state = .running ∨ s.ctl.state = .ending) ∧ 0 ≤ a ∧ a < armedLength s then (playFrame a.toNat s, [])
  else (sendFrame 0#16 0#16 s, [])

/-! ### The CUE reader (R88, R91, R117 to R119) -/

/-- The CUE reader off its page (R78). -/
def leaveCue (s : State) : State :=
  match s.flash.cue.page with
  | none => s
  | some p => onFlash (fun f => onStream .cue (fun r => { r with page := none }) (leavePage .cue p.flashPage f)) s

/-- The cue reader changed. -/
def onReader (g : CueReader → CueReader) (s : State) : State := onFlash (fun f => { f with reader := g f.reader }) s

/-- The CUE reader takes a page as its current page, at a start-of-page (R88, R119). A pending demand for another page
is not presented again (R80). -/
def takeCuePage (place : ReaderPage) (s : State) : Act :=
  let s := onFlash (onStream .cue fun r => keepDemandFor place.flashPage { r with page := some place }) (leaveCue s)
  (onReader (fun r => { r with retry := false, lostPage := none }) s, [.startOfPage .cue])

/-- The CUE reader at the end of its segment's run: catch-up ends, and the reader crosses (R91, R106). -/
def doCrossCue (s : State) : Act :=
  let s := onReader (fun r => { r with catchUp := none }) s
  match s.flash.cue.current with
  | none => (s, [])
  | some c => crossSegment .cue c .enterCue s

/-- The CUE reader enters the segment that has become current (R88, R91, R119): an empty segment, or one that begins in
a lost page, is passed; a segment that begins in the page the reader is on is read from that page. -/
def doEnterCue (s : State) : Act :=
  match s.flash.cue.current with
  | none => (s, [])
  | some c =>
    let place : ReaderPage := { segment := c.segment, index := 0, flashPage := c.entry.firstCuePage }
    if c.entry.cueCount = 0 then (onReader (fun r => { r with readPoint := 0 }) s, [.crossCue])
    else if s.flash.reader.lostPage = some c.entry.firstCuePage then
      (onReader (fun r => { r with readPoint := c.entry.cueCount }) s, [.crossCue])
    else
      let s := onReader (fun r => { r with readPoint := 0 }) s
      if (s.flash.cue.page.map (·.flashPage)) = some c.entry.firstCuePage then
        (onFlash (onStream .cue fun r => { r with page := some place }) s, [])
      else takeCuePage place s

/-- The read point moves to the next record (R88, R117): within the page, to a new page, or past the run. -/
def doAdvanceCue (s : State) : Act :=
  match s.flash.cue.current, s.flash.cue.page with
  | some c, some p =>
    let j := s.flash.reader.readPoint + 1
    let s := onReader (fun r => { r with readPoint := j }) s
    if c.entry.cueCount ≤ j then (s, [.crossCue])
    else
      let index := cuePageIndex c.entry j
      if index = p.index then (s, [])
      else takeCuePage { segment := c.segment, index := index, flashPage := c.entry.firstCuePage + index } s
  | _, _ => (s, [])

/-- The CUE reader's page judged (R119): a FAILED page is asked for again once; the second time it is lost. -/
def doJudgeCue (s : State) : Act :=
  match s.flash.cue.current, s.flash.cue.page with
  | some c, some p =>
    match (findSlot (Slot.isInUseFor .cue p.flashPage) s.flash).bind fun i => (s.flash.slots[i]).content with
    | none => (s, [])
    | some content =>
      if pageGood content.verdicts then (s, [])
      else if s.flash.reader.retry then
        (onReader (fun r => { r with readPoint := c.entry.cueCount, lostPage := some p.flashPage })
          (leaveCue (latch .cueLost s)), [.crossCue])
      else
        (onReader (fun r => { r with retry := true }) (onFlash (leavePage .cue p.flashPage) s),
          [.demand (.stream .cue) p.flashPage])
  | _, _ => (s, [])

/-- The segment record and the 16 bytes of the record at the read point, if the reader's page holds it, is IN_USE and
has a good page verdict (R117). -/
def recordAtReadPoint (f : FlashEngine) : Option (SegmentRecord × List Byte) :=
  match f.cue.current, f.cue.page with
  | some c, some p =>
    if p.segment = c.segment ∧ f.reader.readPoint < c.entry.cueCount ∧
        p.index = cuePageIndex c.entry f.reader.readPoint then
      match (findSlot (Slot.isInUseFor .cue p.flashPage) f).bind fun i => (f.slots[i]).content with
      | some content =>
        if pageGood content.verdicts then
          some (c, record16 content.data ((c.entry.firstCueRecord + f.reader.readPoint) % Config.recordsPerPage))
        else none
      | none => none
    else none
  | _, _ => none

/-- A record of unknown kind is discarded and counted (R118). -/
def countMalformed (s : State) : State :=
  { s with counters := { s.counters with cueMalformed := bump s.counters.cueMalformed } }

/-- What catch-up does with a record (R106). -/
inductive CatchUpResult where
  /-- Catch-up ends at this record, which goes to the ordinary intake. -/
  | ends
  /-- The record is read, with this effect. -/
  | read (s : State)
  /-- An END cue: an end request with its ramp. -/
  | ending (fade : Nat)

/-- A record met in catch-up with seek position q (R106; an unknown kind: R118, log 13). An END cue is an end request by R106
also where KEY_PRESENT is clear, though R64 then skips every cue due before q (DESIGN CHOICE, unsafe: log 42). -/
def catchUpRecord (q : Int) (keyPresent : Bool) (record : List Byte) (s : State) : CatchUpResult :=
  let p : Int := field32 record 0
  let key := bitAt record 4 7 && keyPresent
  if q < p then .ends
  else
    match decodeCue record with
    | none => if p < q ∨ key then .read (countMalformed s) else .ends
    | some cue =>
      if cue.kind = .ending then .ending cue.ramp
      else if key then .read { s with ctx := applyCue .track cue.kind cue.mask s.ltu.lt 200 s.ctx }
      else if p < q then .read s
      else .ends

/-- Catch-up goes on with the record at the read point, and the records after it, while the page is there (R106). -/
def doCatchUp (s : State) : Act :=
  match s.flash.reader.catchUp, recordAtReadPoint s.flash with
  | some q, some (c, record) =>
    match catchUpRecord q c.entry.keyPresent record s with
    | .ends => (onReader (fun r => { r with catchUp := none }) s, [])
    | .read s => (s, [.advanceCue, .catchUp])
    | .ending fade => (s, [.endShow fade])
  | _, _ => (s, [])

/-! ### Arming, starting and seeking (R99, R103, R105) -/

/-- The fifth step of ARMING (R103): the run permit is given, unless a bad entry has ended the arming at the fourth. -/
def givePermit (s : State) : State :=
  if s.ctl.state = .arming then refreshPriming { s with ctl := { s.ctl with armStep := 6 } } else s

/-- ARMED is entered when the four pages after the start page are held (R103). -/
def doCheckArmed (s : State) : Act :=
  if s.ctl.state = .arming ∧ s.ctl.armStep = 6 ∧ startWindowHeld s = 4 then (setShow .armed s, [.startTest]) else (s, [])

/-- The start refused: its position lies at or beyond the show length (R99). -/
def refuseStart (s : State) : State :=
  let s := refuse .start s
  { s with ctl := { s.ctl with startLt := none } }

/-- The pending start tested in ARMED (R99). -/
def doStartTest (s : State) : Act :=
  match s.ctl.state, startOffset s with
  | .armed, some q =>
    if q < 0 then (s, [])
    else if armedLength s ≤ q.toNat then (refuseStart s, [])
    else if q < 480 then (setShow .running s, [])
    else (setShow .running s, [.seek q])
  | _, _ => (s, [])

/-- Where the AUDIO stream is started for a show position: less the audio delay, or 0 (R85). R105's third step has each
stream look up the segment of max(q, 0); R85's position is the one the model looks up (DESIGN CHOICE, unsafe: log 35). -/
def audioStart (q : Int) (s : State) : Nat := (max q 0 - s.config.audioDelay).toNat

/-- A seek (R105): TRACK entries go, both streams are invalidated and started again, the CUE reader in catch-up. -/
def doSeek (q : Int) (s : State) : Act :=
  ({ s with
      cues := { s.cues with entries := s.cues.entries.filter fun e => e.source == .live }
      flash := invalidate .cue (invalidate .audio s.flash)
      audio := { s.audio with opening := none } },
    [.startStream .audio (audioStart q s) none, .startStream .cue (max q 0).toNat (some q)])

/-- A re-seek request after a step (R107). -/
def doReSeek (s : State) : Act :=
  match startOffset s with
  | none => (s, [])
  | some q =>
    match s.ctl.state with
    | .running => if q < armedLength s then (s, [.seek q]) else (s, [.endShow 100])
    | .ending =>
      if q < armedLength s then
        ({ s with flash := invalidate .audio s.flash, audio := { s.audio with opening := none } },
          [.startStream .audio (audioStart q s) none])
      else (s, [])
    | .idle => (s, [])
    | .arming => (s, [])
    | .armed => (s, [])
    | .safe => (s, [])

/-! ### Doing the tasks of an event -/

/-- A task done. -/
def perform (t : Task) (s : State) : Act :=
  match t with
  | .demand r page => doDemand r page s
  | .prefetch purpose x page => doPrefetch purpose x page s
  | .present r => doPresent r s
  | .represent => doRepresent s
  | .occupy x => doOccupy x s
  | .handed purpose page content => doHanded purpose page content s
  | .lookup l => doLookup l s
  | .complete l => doComplete l s
  | .retryIndex page => doRetryIndex page s
  | .indexAhead segment => doIndexAhead segment s
  | .startStream x position catchUp => doStartStream x position catchUp s
  | .begin x position => doBegin x position s
  | .window x => doWindow x s
  | .startOfPage x => doStartOfPage x s
  | .moveAudio a => doMoveAudio a s
  | .enterAudio => doEnterAudio s
  | .earlyDemand a => doEarlyDemand a s
  | .showEnd a => doShowEnd a s
  | .formFrame a => doFormFrame a s
  | .crossCue => doCrossCue s
  | .enterCue => doEnterCue s
  | .judgeCue => doJudgeCue s
  | .advanceCue => doAdvanceCue s
  | .catchUp => doCatchUp s
  | .endShow fade => (endRequest fade s, [])
  | .permit => (givePermit s, [])
  | .checkArmed => doCheckArmed s
  | .startTest => doStartTest s
  | .seek q => doSeek q s
  | .reSeek => doReSeek s

/-- The tasks of an event done one after another, those that follow from a task before those after it. -/
def work : Nat → List Task → State → State
  | 0, _, s => s
  | _ + 1, [], s => s
  | n + 1, t :: rest, s =>
    let act := perform t s
    work n (act.2 ++ rest) act.1

/-- More tasks than one event can give: at most 1,800 segments passed with a few tasks each, and 16 pages of 128 records
read in catch-up (log 19). -/
def workLimit : Nat := 65536

/-- What every event that reaches the engine ends with: ARMED entered if its window is now held, and pending demands
presented again if a slot became FREE (R80, R103). -/
def endOfEvent : List Task := [.checkArmed, .represent, .checkArmed]

/-- An event's tasks done, with the end of the event. -/
def settle (tasks : List Task) (s : State) : State :=
  onFlash (fun f => { f with slotFreed := false, heldNow := [] }) (work workLimit (tasks ++ endOfEvent) s)

end Sys2Proof.Machine
end

