-- ==== Sys2Proof/Machine/Retire.lean ====
section
/-! DEFINITION. The end of a flash read (R73 to R76): verdicts counted, the slot freed or filled, the page handed over. -/

namespace Sys2Proof.Machine

/-- How many sectors of a page have a verdict. -/
def sectorsWith (x : Verdict) (v : Verdicts) : Nat := ((sectorList v).filter fun y => y == x).length

/-- A read's verdicts counted (R75). -/
def countVerdicts (v : Verdicts) (s : State) : State :=
  { s with
    counters := { s.counters with
      eccCorrected := bumpBy (sectorsWith .corrected v) s.counters.eccCorrected
      eccFailed := bumpBy (sectorsWith .failed v) s.counters.eccFailed } }

/-- The entry becomes free; the event counts as one that frees a slot (R76, R80). -/
def dropEntry (page : Nat) (f : FlashEngine) : FlashEngine :=
  { f with queue := f.queue.filter fun e => e.page != page, timer := none, slotFreed := true }

/-- A page left FILLED for a stream, with the prefetch mark of its entry's kind (R76). -/
def fillSlot (e : QueueEntry) (content : PageContent) (f : FlashEngine) : FlashEngine :=
  putSlot e.slot (.filled e.page e.stream content (e.kind == .prefetch)) f

/-- What becomes of a retired entry's slot, and the acts that follow (R76, R83). -/
def retiredSlot (e : QueueEntry) (content : PageContent) (f : FlashEngine) : FlashEngine × List Task :=
  if e.discard then (freeSlot e.slot f, if e.purpose = .index then [.retryIndex e.page] else [])
  else
    match e.purpose with
    | .audio => (fillSlot e content f, [.occupy .audio])
    | .cue => (fillSlot e content f, [.occupy .cue])
    | .config => (freeSlot e.slot f, [.handed .config e.page content])
    | .directory => (freeSlot e.slot f, [.handed .directory e.page content])
    | .header => (freeSlot e.slot f, [.handed .header e.page content])
    | .index => (freeSlot e.slot f, [.handed .index e.page content])

/-- The port becomes free, and the arbiter grants the next WAITING entry (R72, R76). -/
def freePort (s : State) : State := onFlash (fun f => grantPort { f with portBusy := false }) s

/-- An entry retired with a page's content (R75, R76): counted, handed over, rejected demands presented again, then the
port granted anew. -/
def retire (e : QueueEntry) (content : PageContent) (s : State) : State :=
  let result := retiredSlot e content (dropEntry e.page s.flash)
  freePort (settle result.2 { countVerdicts content.verdicts s with flash := result.1 })

/-- The content of a read that timed out: no data, every sector FAILED (R74). -/
def timedOut : PageContent := { data := [], verdicts := allFailed }

/-- FLASH_TIMEOUT latches unless the entry is discarded (R74, R83). -/
def latchTimeout (e : QueueEntry) (s : State) : State := if e.discard then s else latch .flashTimeout s

/-- The entry on the port, if it is in a given state. -/
def portEntry (x : EntryState) (s : State) : Option QueueEntry := (activeEntry s.flash).filter fun e => e.state == x

/-- The flash reports ready: the entry enters TRANSFER and the timer stops (R73, R74). -/
def enterTransfer (e : QueueEntry) (f : FlashEngine) : FlashEngine :=
  { f with queue := updateEntry e.page (fun e => { e with state := .transfer }) f.queue, timer := none }

end Sys2Proof.Machine
end

