-- ==== Sys2Proof/Machine/FlashCommands.lean ====
section
/-! DEFINITION. The commands of the flash port: FLASH_READY, FLASH_TIMEOUT and RETIREMENT (R73, R74, R76). -/

namespace Sys2Proof.Machine

/-- FLASH_READY (R73): the entry in LOADING enters TRANSFER. -/
def execFlashReady (s : State) : Host.Outcome State Fault Refusal :=
  match portEntry .loading s with
  | some e => .next (onFlash (enterTransfer e) s)
  | none => .next s

/-- FLASH_TIMEOUT (R74): the 5 ms timer expires on an entry in LOADING. -/
def execFlashTimeout (s : State) : Host.Outcome State Fault Refusal :=
  match portEntry .loading s with
  | some e => if timerShows 5 s.flash.timer then .next (retire e timedOut (latchTimeout e s)) else .next s
  | none => .next s

/-- RETIREMENT (R76): the transfer of the entry in TRANSFER ends, with the page's data bytes and its verdicts (R73). -/
def execRetirement (page : Vector Byte pageBytes) (verdicts : Verdicts) (s : State) :
    Host.Outcome State Fault Refusal :=
  match portEntry .transfer s with
  | some e => .next (retire e { data := page.toList, verdicts := verdicts } s)
  | none => .next s

end Sys2Proof.Machine
end

