-- ==== Sys2Proof/Machine/Cues.lean ====
section
/-! DEFINITION. The Cue Queue (R115 to R125): places, LIVE and TRACK intake, release. -/

namespace Sys2Proof.Machine

/-- The most entries the queue holds (R116). -/
def cueLimit : Nat := 48

/-- The most TRACK entries the queue holds (R116). -/
def trackLimit : Nat := 40

/-- The lateness above which a LIVE cue is stale (R121, R123). -/
def staleAfter : Int := 48000

/-- How far ahead of LT a TRACK cue may be due and be taken (R117). -/
def trackHorizon : Nat := 96000

/-- An entry put before the first entry whose due is after its own (R116). -/
def insertCue (e : CueEntry) : List CueEntry → List CueEntry
  | [] => [e]
  | q :: rest => if isAfter q.due e.due then e :: q :: rest else q :: insertCue e rest

/-- A decoded cue joins the queue (R115, R116). -/
def joinQueue (source : CueSource) (due : LineTime) (c : CueRecord) (s : State) : State :=
  let e : CueEntry :=
    { due := due, source := source, kind := c.kind, mask := c.mask, ramp := c.ramp, arrival := s.cues.nextArrival }
  { s with cues := { entries := insertCue e s.cues.entries, nextArrival := s.cues.nextArrival + 1 } }

/-- A stale LIVE cue is counted (R121, R123). -/
def countStale (s : State) : State :=
  { s with counters := { s.counters with cueStale := bump s.counters.cueStale } }

/-- A LIVE cue rejected by a full queue is counted (R121). -/
def countReject (s : State) : State :=
  { s with counters := { s.counters with cueReject := bump s.counters.cueReject } }

/-! ### LIVE cues (R120, R121) -/

/-- One decoded LIVE cue taken, by the checks of R121 in their order. -/
def takeLive (c : CueRecord) (s : State) : State :=
  let due := if c.due = 0#32 then s.ltu.lt else c.due
  if staleAfter < ltDiff s.ltu.lt due then countStale s
  else if cueLimit ≤ s.cues.entries.length then countReject s
  else joinQueue .live due c s

/-- One record of a CUE frame taken (R118, R121). -/
def takeLiveRecord (s : State) (record : List Byte) : State :=
  match decodeCue record with
  | none => countMalformed s
  | some c => takeLive c s

/-- The records of a CUE frame's payload, in frame order (12.2). -/
def frameRecords (payload : List Byte) : List (List Byte) :=
  (List.range ((payload.length - 2) / 16)).map fun k => (payload.drop (2 + 16 * k)).take 16

/-- A group mask has a member in common with the station's cue group set (R96, R120). -/
def addressed (mask : Byte) (s : State) : Bool := mask &&& s.config.cueGroups != 0#8

/-- A valid CUE frame dispatched (R120). -/
def takeCueFrame (payload : List Byte) (s : State) : State :=
  if addressed (payload.getD 0 0#8) s then
    match s.ctl.state with
    | .armed => (frameRecords payload).foldl takeLiveRecord s
    | .running => (frameRecords payload).foldl takeLiveRecord s
    | .idle => refuse .cue s
    | .arming => refuse .cue s
    | .ending => refuse .cue s
    | .safe => refuse .cue s
  else s

/-! ### TRACK cues (R117) -/

/-- The queue has a place for a TRACK cue (R117). -/
def trackPlace (q : CueQueue) : Bool :=
  (q.entries.filter fun e => e.source == .track).length < trackLimit && q.entries.length < cueLimit

/-- The record TRACK intake would take now, with its due, if every condition of R117 holds. -/
def trackReady (s : State) : Option (List Byte × LineTime) :=
  match s.ctl.state, s.ctl.startLt, s.flash.reader.catchUp, recordAtReadPoint s.flash with
  | .running, some start, none, some (_, record) =>
    let due := start + recordDue record
    if trackPlace s.cues && atOrAfter (s.ltu.lt + BitVec.ofNat 32 trackHorizon) due then some (record, due) else none
  | _, _, _, _ => none

/-- A TRACK record taken (R117, R118): a cue joins the queue, an unknown kind is counted. -/
def takeTrack (record : List Byte) (due : LineTime) (s : State) : State :=
  match decodeCue record with
  | none => countMalformed s
  | some c => joinQueue .track due c s

/-! ### Release (R123, R124) -/

/-- The effective ramp of a cue released with a lateness (R123). -/
def effectiveRamp (ramp : Nat) (lateness : Int) : Nat := (ramp - Int.fdiv lateness Config.controlCounts).toNat

/-- A released cue acts by its kind (R124): an END is an end request in RUNNING and nothing in ARMED. -/
def actOn (e : CueEntry) (ramp : Nat) (s : State) : State :=
  match e.kind with
  | .ending => if s.ctl.state = .running then endRequest ramp s else s
  | .jet h => { s with ctx := applyCue e.source (.jet h) e.mask s.ltu.lt ramp s.ctx }
  | .light c => { s with ctx := applyCue e.source (.light c) e.mask s.ltu.lt ramp s.ctx }
  | .gain g => { s with ctx := applyCue e.source (.gain g) e.mask s.ltu.lt ramp s.ctx }
  | .release => { s with ctx := applyCue e.source .release e.mask s.ltu.lt ramp s.ctx }

/-- A released entry judged by its lateness (R123). -/
def releaseCue (e : CueEntry) (s : State) : State :=
  let lateness := ltDiff s.ltu.lt e.due
  if e.source = .live ∧ staleAfter < lateness then countStale s
  else actOn e (effectiveRamp e.ramp lateness) s

/-- Up to n entries released from the head, each due at or before LT (R123). -/
def releaseDue : Nat → State → State
  | 0, s => s
  | n + 1, s =>
    match s.cues.entries with
    | [] => s
    | e :: rest =>
      if atOrAfter s.ltu.lt e.due then
        releaseDue n (releaseCue e { s with cues := { s.cues with entries := rest } })
      else s

/-- The release of a control instant (R123). -/
def releaseCues (s : State) : State := releaseDue s.cues.entries.length s

end Sys2Proof.Machine
end

