-- ==== Sys2Proof/Machine/Frames.lean ====
section
/-! DEFINITION. The frames the part sends and how a received frame is judged (R4 to R8, R10, R11, R95, R194, R197, R198, 12.2). -/

namespace Sys2Proof.Machine

/-! ### Sending -/

/-- The code of a show number, FFh for none (12.1). -/
def numberCode (n : Option Nat) : Nat := n.getD 255

/-- A start LT as sent: 0 while invalid (R95). -/
def startField (t : Option LineTime) : Nat :=
  match t with
  | some t => t.toNat
  | none => 0

/-- The payload of a beacon built now (R10, 12.2). Its LT field, bytes 0 to 3, is filled at the start mark (R14). -/
def beaconPayload (s : State) : List Byte :=
  bytes32 0 ++ bytes8 (numberCode s.ctl.number) ++ bytes8 (showCode s.ctl.state) ++ bytes32 (startField s.ctl.startLt) ++
  bytes8 (clockCode s.ltu.clock) ++ bytes32 s.jets.request ++ bytes16 (heldWind s) ++
  bytes8 (beaconFlags s) ++ bytes8 (groupByte s) ++
  bytes8 s.config.syncGroup ++ bytes8 s.config.basinGroup ++ bytes8 s.config.windGroup ++ bytes8 s.config.feedGroup

/-- The show position of a STATUS reply: LT less start LT in RUNNING and ENDING, 0 otherwise (R95). -/
def showPosition (s : State) : BitVec 32 :=
  match s.ctl.state, s.ctl.startLt with
  | .running, some t => s.ltu.lt - t
  | .ending, some t => s.ltu.lt - t
  | _, _ => 0#32

/-- The refusal byte: operation code in bits 4 to 7, show state code in bits 0 to 3, 00h for none (12.2, R198). -/
def refusalByte (r : Option (RefusedOp × ShowState)) : Nat :=
  match r with
  | some (op, state) => 16 * opCode op + showCode state
  | none => 0

/-- A pump's two bytes in a STATUS reply: state code in bits 13 to 15, s_out in bits 0 to 9 (12.2). -/
def pumpBytes (p : Pump) : List Byte := bytes16 (8192 * pumpCode p.state + p.sOut)

/-- The fifteen counters in STATUS order (12.2). -/
def counterList (c : Counters) : List Nat :=
  [c.rxCrc, c.rxUnknown, c.rxFormat, c.txCollision, c.txGiveUp, c.txReplaced, c.peerOverflow, c.cueReject, c.cueStale,
   c.cueMalformed, c.demandReject, c.eccCorrected, c.eccFailed, c.underrunFrames, c.refused]

/-- The 80-byte payload of a STATUS reply built now (R197, 12.2). -/
def statusPayload (s : State) : List Byte :=
  bytes24 s.faults.sources.toNat ++ bytes16 s.faults.pumpMask.toNat ++
  bytes8 (showCode s.ctl.state) ++ bytes8 (numberCode s.ctl.number) ++ bytes32 (showPosition s).toNat ++
  bytes8 (clockCode s.ltu.clock) ++ bytes32 s.ltu.lastM.toNat ++ bytes16 s.jets.k ++ bytes32 s.jets.request ++
  bytes16 (effectiveWind s) ++ bytes8 s.peers.length ++ bytes8 (refusalByte s.ctl.refusal) ++
  s.jets.pumps.toList.flatMap pumpBytes ++ (counterList s.counters).flatMap bytes16

/-- The kind code of a slot's frame (1.2). -/
def slotKind : SlotId → Nat
  | .beacon => 1
  | .status => 6

/-- A frame: the start mark, the header, the payload and the CRC-16 over header and payload (1.2, R5). -/
def frameBytes (kind station : Nat) (payload : List Byte) : List Byte :=
  let body := bytes8 kind ++ bytes8 station ++ bytes8 payload.length ++ payload
  [0xA5#8] ++ body ++ crcBytes body

/-- A payload as sent: a beacon's LT field holds the LT latched at the start mark (R14). -/
def sentPayload (slot : SlotId) (latched : LineTime) (payload : List Byte) : List Byte :=
  match slot with
  | .beacon => bytes32 latched.toNat ++ payload.drop 4
  | .status => payload

/-! ### Judging (R6) -/

/-- The outcome of the checks of R6. -/
inductive Judged where
  | crc | unknown | format
  | valid (kind source : Nat) (payload : List Byte)
deriving DecidableEq, Repr

/-- The most bytes the assembler stores (R4). -/
def storedLimit : Nat := 102

/-- Check 1, integrity (R6). A frame of more than 102 bytes fails it, since no LENGTH allows it. -/
def integrityOk (rx : Receiver) : Bool :=
  let length := byteAt rx.bytes 3
  byteAt rx.bytes 0 == 0xA5 && !rx.broken && 4 ≤ rx.count && rx.count ≤ storedLimit && rx.count == 4 + length + 2 &&
    (crc16 ((rx.bytes.drop 1).take (3 + length))).toNat == field16 rx.bytes (4 + length)

/-- The payload lengths a kind requires (R6, check 4). -/
def lengthOk (kind length : Nat) : Bool :=
  match kind with
  | 1 => length == 23
  | 2 => length == 18 || length == 34 || length == 50 || length == 66 || length == 82
  | 3 => length == 12
  | 4 => length == 3
  | 5 => length == 1
  | 6 => length == 80
  | _ => false

/-- The checks of R6 in their order. -/
def judgeFrame (rx : Receiver) : Judged :=
  let kind := byteAt rx.bytes 1
  let source := byteAt rx.bytes 2
  let length := byteAt rx.bytes 3
  if !integrityOk rx then .crc
  else if kind < 1 ∨ 6 < kind then .unknown
  else if source = 0 ∨ 31 < source then .format
  else if !lengthOk kind length then .format
  else .valid kind source ((rx.bytes.drop 4).take length)

end Sys2Proof.Machine
end

