-- ==== Sys2Proof/Machine/Transmit.lean ====
section
/-! DEFINITION. The transmit slots, the deferral and the attempts (R9 to R18). -/

namespace Sys2Proof.Machine

/-- A slot of the port. -/
def slotAt (slot : SlotId) (l : LinePort) : TxSlot :=
  match slot with
  | .beacon => l.beacon
  | .status => l.status

/-- A slot of the port replaced. -/
def setSlot (slot : SlotId) (t : TxSlot) (l : LinePort) : LinePort :=
  match slot with
  | .beacon => { l with beacon := t }
  | .status => { l with status := t }

/-- A change of the Line Port inside the state. -/
def onLine (g : LinePort → LinePort) (s : State) : State := { s with line := g s.line }

/-- A frame placed in a slot: WAITING with a = 0 (R9). -/
def waitingSlot (payload : List Byte) : TxSlot := { use := .waiting, payload := payload, attempts := 0 }

/-- The values r is drawn from for an ordinary deferral (R12). -/
def ordinaryRange : Nat := 32

/-- The values r is drawn from after a failed attempt that left the count at a (R16). -/
def backoffRange (a : Nat) : Nat := 32 * 2 ^ min a 4

/-- The slot R13 picks: BEACON if it is WAITING, otherwise STATUS if it is. -/
def chosenSlot (l : LinePort) : Option SlotId :=
  if l.beacon.use = .waiting then some .beacon
  else if l.status.use = .waiting then some .status
  else none

/-- The transmitter starts counting 24 + r bit times, if it is QUIET on an idle line with a frame WAITING (R12). -/
def startDeferral (s : State) : State :=
  if s.line.view = .idle ∧ s.line.tx = .quiet ∧ (chosenSlot s.line).isSome then
    let wait := 24 + draw s.line.drawRange s
    onLine (fun l => { l with tx := .deferring wait }) (afterDraw s)
  else s

/-- A beacon built now is placed, or marked pending behind the one being sent (R10); none in LISTEN-ONLY (R18). -/
def placeBeacon (s : State) : State :=
  if listenOnly s then s
  else
    match s.line.beacon.use with
    | .empty => onLine (fun l => { l with beacon := waitingSlot (beaconPayload s) }) s
    | .waiting =>
      onLine (fun l => { l with beacon := waitingSlot (beaconPayload s) })
        { s with counters := { s.counters with txReplaced := bump s.counters.txReplaced } }
    | .sending => onLine (fun l => { l with buildPending := true }) s

/-- A beacon marked pending is built when the attempt ends, and the mark is cleared (R10). -/
def buildPendingBeacon (s : State) : State :=
  if s.line.buildPending then placeBeacon (onLine (fun l => { l with buildPending := false }) s) else s

/-- A STATUS frame built now and placed in the EMPTY STATUS slot (R11); none in LISTEN-ONLY (R18). -/
def placeStatus (s : State) : State :=
  if listenOnly s then s
  else
    match s.line.status.use with
    | .empty => onLine (fun l => { l with status := waitingSlot (statusPayload s) }) s
    | .waiting => s
    | .sending => s

/-- A count runs out (R13, R14): the chosen slot's attempt begins, its LT latched; or the transmitter is QUIET. -/
def beginAttempt (s : State) : State :=
  match chosenSlot s.line with
  | none => onLine (fun l => { l with tx := .quiet }) s
  | some slot =>
    let held := slotAt slot s.line
    let frame := frameBytes (slotKind slot) s.station (sentPayload slot s.ltu.lt held.payload)
    onLine (fun l =>
      { setSlot slot { held with use := .sending } l with
        view := .busy, rx := Receiver.cleared false, tx := .sending slot s.ltu.lt frame, drawRange := ordinaryRange }) s

/-- A beacon sent (R17). -/
def noteBeaconSent (slot : SlotId) (s : State) : State :=
  match slot with
  | .beacon => onLine (fun l => { l with giveUps := 0, sentSinceTxFail := true }) s
  | .status => s

/-- A beacon given up (R17): the fourth in a row latches TX_FAIL and clears the mark. -/
def noteBeaconGivenUp (slot : SlotId) (s : State) : State :=
  match slot with
  | .beacon =>
    let n := min (s.line.giveUps + 1) 4
    let s := onLine (fun l => { l with giveUps := n }) s
    if n = 4 then latch .txFail (onLine (fun l => { l with sentSinceTxFail := false }) s) else s
  | .status => s

/-- An attempt succeeded (R14): the slot is EMPTY, and line activity is assembled again (R4). -/
def attemptDone (slot : SlotId) (s : State) : State :=
  buildPendingBeacon
    (noteBeaconSent slot
      (onLine (fun l => { setSlot slot TxSlot.emptySlot l with tx := .quiet, rx := Receiver.cleared true }) s))

/-- The failed-attempt count at which a frame is given up (R16). -/
def giveUpAt : Nat := 8

/-- A slot after a failed attempt that is not the eighth (R15, R16). -/
def keepFrame (slot : SlotId) (a : Nat) (s : State) : State :=
  onLine (fun l =>
    { setSlot slot { slotAt slot l with use := .waiting, attempts := a } l with
      tx := .quiet, drawRange := backoffRange a }) s

/-- A frame given up at its eighth failure (R16). -/
def giveUpFrame (slot : SlotId) (s : State) : State :=
  noteBeaconGivenUp slot
    (onLine (fun l => { setSlot slot TxSlot.emptySlot l with tx := .quiet, drawRange := ordinaryRange })
      { s with counters := { s.counters with txGiveUp := bump s.counters.txGiveUp } })

/-- An attempt failed (R15, R16): counted, then kept for a backoff or given up; a pending beacon is then built. -/
def attemptLost (slot : SlotId) (s : State) : State :=
  let a := (slotAt slot s.line).attempts + 1
  let s := { s with counters := { s.counters with txCollision := bump s.counters.txCollision } }
  buildPendingBeacon (if a < giveUpAt then keepFrame slot a s else giveUpFrame slot s)

end Sys2Proof.Machine
end

