-- ==== Sys2Proof/Machine/ShowFrames.lean ====
section
/-! DEFINITION. SHOW frames, the join test and CLEAR frames (R96 to R101, R108, R114, R195). -/

namespace Sys2Proof.Machine

/-! ### SHOW frames -/

/-- The start LT recorded as valid (R98). -/
def recordStart (t : LineTime) (s : State) : State := { s with ctl := { s.ctl with startLt := some t } }

/-- The first read of the arming sequence, of page 1 (R103). -/
def directoryRead : List Task := [.demand (.arming .directory) 1]

/-- Entry into ARMING for show n with its directory read (R102, R103). -/
def beginArming (n : Nat) (s : State) : State := settle directoryRead (enterArming n s)

/-- An ARM for show n (R97). -/
def showArm (n : Nat) (s : State) : State :=
  if 15 < n then refuse .arm s
  else
    match s.ctl.state with
    | .idle => beginArming n s
    | .armed => if s.ctl.number = some n then s else beginArming n (setShow .idle (teardown s))
    | .arming => refuse .arm s
    | .running => refuse .arm s
    | .ending => refuse .arm s
    | .safe => refuse .arm s

/-- A START for show n with start LT t (R98). -/
def showStart (n : Nat) (t : LineTime) (s : State) : State :=
  match s.ctl.state with
  | .arming => if s.ctl.number = some n then recordStart t s else refuse .start s
  | .armed => if s.ctl.number = some n then settle [.startTest] (recordStart t s) else refuse .start s
  | .idle => refuse .start s
  | .running => refuse .start s
  | .ending => refuse .start s
  | .safe => refuse .start s

/-- A STOP with a fade (R101): refused in IDLE and SAFE, an end request otherwise. -/
def showStop (f : Nat) (s : State) : State :=
  match s.ctl.state with
  | .idle => refuse .stop s
  | .safe => refuse .stop s
  | .arming => settle [] (endRequest f s)
  | .armed => settle [] (endRequest f s)
  | .running => settle [] (endRequest f s)
  | .ending => settle [] (endRequest f s)

/-- A valid SHOW frame dispatched (R96, 12.2): operation, show number, group mask, start LT, fade. -/
def takeShowFrame (payload : List Byte) (s : State) : State :=
  if addressed (payload.getD 2 0#8) s then
    match byteAt payload 0 with
    | 1 => showArm (byteAt payload 1) s
    | 2 => showStart (byteAt payload 1) (BitVec.ofNat 32 (field32 payload 3)) s
    | 3 => showStop (min (field16 payload 7) 6000) s
    | _ => refuse .other s
  else s

/-! ### Auto-join (R108) -/

/-- How many records of the offer report a pair. -/
def votes (offers : List (Nat × LineTime)) (pair : Nat × LineTime) : Nat := (offers.filter fun o => o == pair).length

/-- The pair with the most records among those that qualify; of equals, the first offered (R108). -/
def bestPair (offers : List (Nat × LineTime)) : List (Nat × LineTime) → Option (Nat × LineTime)
  | [] => none
  | p :: rest =>
    match bestPair offers rest with
    | none => some p
    | some q => if votes offers q ≤ votes offers p then some p else some q

/-- The pair the join test takes: at least 2 records, not the join record's pair (R108). -/
def joinPair (s : State) : Option (Nat × LineTime) :=
  let offers := joinOffers s.config.syncGroup s.peers
  bestPair offers (offers.filter fun p => 2 ≤ votes offers p && s.ctl.join != some p)

/-- The join test of a control instant (R108). -/
def autoJoin (s : State) : State :=
  if s.config.autoJoin ∧ s.ctl.state = .idle ∧ s.ltu.clock = .locked then
    match joinPair s with
    | none => s
    | some pair =>
      settle directoryRead
        (recordStart pair.2 (enterArming pair.1 { s with ctl := { s.ctl with join := some pair } }))
  else s

/-! ### CLEAR frames (R195) -/

/-- The group mask of a CLEAR frame names a group. -/
def named (mask : Byte) (g : FaultGroup) : Bool := mask.getLsbD (groupNumber g)

/-- The ESTOP trip at a CLEAR naming SAFETY (R185). -/
def clearEstop (s : State) : State :=
  { s with locks := { s.locks with estopTrip := s.locks.estopTrip && s.locks.estop } }

/-- A latching AUX trip at a CLEAR naming SAFETY (R186): its end clears the park cause. -/
def clearAux (s : State) : State :=
  if s.config.auxLatching ∧ s.locks.auxTrip ∧ s.locks.aux = false then
    removeCause .aux { s with locks := { s.locks with auxTrip := false } }
  else s

/-- The latching DRIVE_FAULT trips at a CLEAR naming HYDRAULIC (R187). -/
def clearDrive (s : State) : State :=
  { s with
    locks := { s.locks with
      driveTrips := Vector.ofFn fun j : Jet =>
        s.locks.driveTrips[j] && !(s.config.driveLatching j && !s.locks.drive[j]) } }

/-- Step 1, the trip latches. -/
def clearTrips (mask : Byte) (s : State) : State :=
  let s := if named mask .safety then clearAux (clearEstop s) else s
  if named mask .hydraulic then clearDrive s else s

/-- The trips that stand, as a pump mask. -/
def tripMask (s : State) : BitVec 12 :=
  (List.finRange 12).foldl (fun m j => if s.locks.driveTrips[j] then m ||| (1#12 <<< j.val) else m) 0#12

/-- The DRIVE_FAULT mask loses each bit whose trip is gone (R187, R195). -/
def clearPumpMask (s : State) : State :=
  { s with faults := { s.faults with pumpMask := s.faults.pumpMask &&& tripMask s } }

/-- A source cleared if its group is named and its standing condition is absent (R193, R195). -/
def clearSource (mask : Byte) (s : State) (f : FaultSource) : State :=
  if named mask (groupOf f) && !standing f s then unlatch f s else s

/-- Step 2, the sources. -/
def clearSources (mask : Byte) (s : State) : State :=
  allSources.foldl (clearSource mask) (if named mask .hydraulic then clearPumpMask s else s)

/-- Step 3: SAFE is left once the ESTOP trip is clear (R114). -/
def clearSafe (s : State) : State :=
  if s.ctl.state = .safe ∧ s.locks.estopTrip = false then leaveSafe s else s

/-- Step 4, the pumps (R150). -/
def clearPumps (mask : Byte) (s : State) : State := if named mask .hydraulic then forJets releasePump s else s

/-- Step 5, the counters and the refusal record. -/
def clearCounters (flag : Bool) (s : State) : State :=
  if flag then { s with counters := Counters.zero, ctl := { s.ctl with refusal := none } } else s

/-- A CLEAR that acts, its five steps in order (R195). -/
def actClear (mask : Byte) (flag : Bool) (s : State) : State :=
  clearCounters flag (clearPumps mask (clearSafe (clearSources mask (clearTrips mask s))))

/-- A CLEAR's target names this station: its own number, or 0 for all (R195). -/
def clearReaches (target : Nat) (s : State) : Bool := target == 0 || target == s.station

/-- A valid CLEAR frame dispatched (R195, 12.2): target, group mask, counters flag. -/
def takeClearFrame (payload : List Byte) (s : State) : State :=
  if clearReaches (byteAt payload 0) s then actClear (payload.getD 1 0#8) (bitAt payload 2 0) s else s

/-- A valid QUERY frame dispatched (R11): it names the own station, not 0. -/
def takeQueryFrame (payload : List Byte) (s : State) : State :=
  if byteAt payload 0 = s.station then placeStatus s else s

end Sys2Proof.Machine
end

