-- ==== Sys2Proof/Machine/LineCommands.lean ====
section
/-! DEFINITION. The commands of the Show Line: LINE_IDLE_DETECTION, LINE_BUSY, DEFERRAL_EXPIRY, ATTEMPT_SUCCEEDED,
ATTEMPT_FAILED and BYTE_RECEIVED (R2 to R18). -/

namespace Sys2Proof.Machine

/-- An attempt is being made (1.5). -/
def isSending : Transmitter → Bool
  | .quiet => false
  | .deferring _ => false
  | .sending _ _ _ => true

/-- A count of R12 is running. -/
def isDeferring : Transmitter → Bool
  | .quiet => false
  | .deferring _ => true
  | .sending _ _ _ => false

/-! ### LINE_IDLE_DETECTION -/

/-- A valid BEACON dispatched with the LT captured at its start mark (R8, R21, R24, R25). -/
def takeBeaconFrame (source : Nat) (payload : List Byte) (rx : Receiver) (s : State) : State :=
  match rx.capture with
  | some capture => takeBeacon (peerOfBeacon source payload capture rx.correction) s
  | none => s

/-- A valid frame from another station handed to the block its kind names (R8). -/
def dispatch (kind source : Nat) (payload : List Byte) (rx : Receiver) (s : State) : State :=
  match kind with
  | 1 => takeBeaconFrame source payload rx s
  | 2 => takeCueFrame payload s
  | 3 => takeShowFrame payload s
  | 4 => takeClearFrame payload s
  | 5 => takeQueryFrame payload s
  | _ => s

/-- A valid frame (R7, R8): the own source latches DUP_STATION; another's is dispatched once start-up has ended. -/
def takeValid (kind source : Nat) (payload : List Byte) (rx : Receiver) (s : State) : State :=
  if source = s.station then latch .dupStation s
  else if started s then dispatch kind source payload rx s
  else s

/-- A frame judged and taken (R6). -/
def takeJudged (rx : Receiver) (s : State) : State :=
  match judgeFrame rx with
  | .crc => { s with counters := { s.counters with rxCrc := bump s.counters.rxCrc } }
  | .unknown => { s with counters := { s.counters with rxUnknown := bump s.counters.rxUnknown } }
  | .format => { s with counters := { s.counters with rxFormat := bump s.counters.rxFormat } }
  | .valid kind source payload => takeValid kind source payload rx s

/-- The view turns IDLE and the assembler is emptied for the next frame (R3, R4). -/
def lineIdle (l : LinePort) : LinePort := { l with view := .idle, rx := Receiver.cleared true }

/-- LINE_IDLE_DETECTION (R3): the view turns from BUSY to IDLE; the frame assembled, if any byte was, is judged and
taken; a frame WAITING starts its count (R12). During the part's own attempt the line cannot go idle. -/
def execLineIdleDetection (s : State) : Host.Outcome State Fault Refusal :=
  if powered s ∧ s.line.view = .busy ∧ isSending s.line.tx = false then
    let idle := onLine lineIdle s
    .next (startDeferral (if s.line.rx.count = 0 then idle else takeJudged s.line.rx idle))
  else .next s

/-! ### LINE_BUSY -/

/-- A falling edge begins a byte where activity is assembled; that of a frame's first byte captures LT (R2, R4). -/
def beginByte (lt : LineTime) (r : Receiver) : Receiver :=
  if r.assembling ∧ r.inByte = false then
    if r.count = 0 then { r with inByte := true, capture := some lt, correction := 0#32 } else { r with inByte := true }
  else r

/-- A running count is abandoned (R12). The range of the next draw stays. -/
def abandonCount (t : Transmitter) : Transmitter := if isDeferring t then .quiet else t

/-- LINE_BUSY (R3, R12): a falling edge on the line. -/
def execLineBusy (s : State) : Host.Outcome State Fault Refusal :=
  if powered s then
    .next (onLine (fun l => { l with view := .busy, tx := abandonCount l.tx, rx := beginByte s.ltu.lt l.rx }) s)
  else .next s

/-! ### The attempts -/

/-- DEFERRAL_EXPIRY (R13): the count of R12 runs out. -/
def execDeferralExpiry (s : State) : Host.Outcome State Fault Refusal :=
  if isDeferring s.line.tx then .next (beginAttempt s) else .next s

/-- ATTEMPT_SUCCEEDED (R14): every bit has been read back as sent. -/
def execAttemptSucceeded (s : State) : Host.Outcome State Fault Refusal :=
  match s.line.tx with
  | .sending slot _ _ => .next (attemptDone slot s)
  | .quiet => .next s
  | .deferring _ => .next s

/-- ATTEMPT_FAILED (R15): bit n of the frame, a 1, was read back as 0. A 0 the part drives always reads back as 0. -/
def execAttemptFailed (bit : Nat) (s : State) : Host.Outcome State Fault Refusal :=
  match s.line.tx with
  | .sending slot _ frame => if (frameBits frame).getD bit false then .next (attemptLost slot s) else .next s
  | .quiet => .next s
  | .deferring _ => .next s

/-! ### BYTE_RECEIVED -/

/-- A glitch (R2): no byte is begun; the edge of a frame's first byte captured nothing. -/
def dropByte (r : Receiver) : Receiver :=
  if r.count = 0 then { r with inByte := false, capture := none, correction := 0#32 } else { r with inByte := false }

/-- A broken byte (R2, R4): counted, not stored, and the frame is marked. -/
def breakByte (r : Receiver) : Receiver := { r with inByte := false, count := r.count + 1, broken := true }

/-- A byte stored, if among the first 102, and counted (R4). -/
def storeByte (b : Byte) (r : Receiver) : Receiver :=
  { r with
    inByte := false, count := r.count + 1
    bytes := if r.bytes.length < storedLimit then r.bytes ++ [b] else r.bytes }

/-- What the assembler does with a reception (R2, R4). -/
def assemble (what : Reception) (r : Receiver) : Receiver :=
  match what with
  | .glitch => dropByte r
  | .broken => breakByte r
  | .stored b => storeByte b r

/-- BYTE_RECEIVED (R2): the bits of a byte that a falling edge has begun (LINE_BUSY) are decoded, where activity is assembled
(R4). With no byte begun there is none to end (log 22). -/
def execByteReceived (bits : Vector Bool 10) (s : State) : Host.Outcome State Fault Refusal :=
  if powered s ∧ s.line.rx.assembling ∧ s.line.rx.inByte then
    .next (onLine (fun l => { l with rx := assemble (receivedByte bits) l.rx }) s)
  else .next s

end Sys2Proof.Machine
end

