-- ==== Sys2Proof/Machine/Sensors.lean ====
section
/-! DEFINITION. The Sensor Monitor's samples and the Interlock Inputs' trips (R175 to R187). -/

namespace Sys2Proof.Machine

/-! ### A sample (R175, R176) -/

/-- The upper end of an input's scaled range (R174). -/
def rangeTop : AnalogInput → Int
  | .wind => 600
  | .level => 1000
  | .pressA => 1000
  | .pressB => 1000

/-- The scaling of an input. -/
def scalingOf (i : AnalogInput) (c : Configuration) : Scaling :=
  match i with
  | .wind => c.scaling[0]
  | .level => c.scaling[1]
  | .pressA => c.scaling[2]
  | .pressB => c.scaling[3]

/-- A raw value scaled and clamped: offset + trunc(gain × raw / 4,096) (R175). -/
def scaleRaw (top : Int) (k : Scaling) (raw : BitVec 12) : Nat :=
  (clampInt 0 top (k.offset + (k.gain * raw.toNat / 4096 : Nat))).toNat

/-- A raw value at an extreme of the converter: a broken wire or a failed sensor (10.1, R176). -/
def badRaw (raw : BitVec 12) : Bool := raw == 0#12 || raw == 0xFFF#12

/-- The health after a sample's run counts (R176). In warm-up it stays NOT_READY. -/
def sampledHealth (h : Health) (bad good : Nat) : Health :=
  match h with
  | .notReady => .notReady
  | .ready => if bad = 10 then .failed else .ready
  | .failed => if good = 10 then .ready else .failed

/-- An input's record after a sample (R175, R176). -/
def sampledRecord (top : Int) (k : Scaling) (raw : BitVec 12) (r : InputRecord) : InputRecord :=
  let bad := if badRaw raw then min (r.bad + 1) 10 else 0
  let good := if badRaw raw then 0 else min (r.good + 1) 10
  { raw := raw, scaled := scaleRaw top k raw, health := sampledHealth r.health bad good, bad := bad, good := good }

/-! ### The mechanisms -/

/-- The filtered wind toward a scaled value (R178). -/
def filterWind (w f : Nat) : Nat := ((f : Int) + Int.tdiv ((w : Int) - f) 8).toNat

/-- The current bin raised to the filtered wind (R179). -/
def raiseBin (m : SensorMonitor) : SensorMonitor :=
  { m with bins := m.bins.set m.currentBin (max m.bins[m.currentBin] m.filtered) }

/-- The wind mechanism: the filter, or W_HIGH as the stand-in, then the bin (R177, R178, R179). -/
def windMechanism (active : Bool) (s : State) : State :=
  let f := if active then filterWind s.sensors.inputs.wind.scaled s.sensors.filtered else s.config.wHigh
  { s with sensors := raiseBin { s.sensors with filtered := f } }

/-- LEVEL_LOW set, with LEVEL_LOW_SEEN latched (R181). -/
def setLevelLow (s : State) : State :=
  latch .levelLowSeen { s with sensors := { s.sensors with levelLow := true, lowTimer := none } }

/-- The low and the high timer set. -/
def setLevelTimers (low high : Option Nat) (s : State) : State :=
  { s with sensors := { s.sensors with lowTimer := low, highTimer := high } }

/-- The level timers judged at a sample with scaled level v (R181). -/
def judgeLevelLow (v : Nat) (s : State) : State :=
  let m := s.sensors
  if m.levelLow then
    if s.config.lLow + s.config.lHyst ≤ v then
      if timerShows 60000 m.highTimer then
        { s with sensors := { m with levelLow := false, highTimer := none } }
      else setLevelTimers m.lowTimer (some (m.highTimer.getD 0)) s
    else setLevelTimers m.lowTimer none s
  else if v < s.config.lLow then
    if timerShows 2000 m.lowTimer then setLevelLow s
    else setLevelTimers (some (m.lowTimer.getD 0)) m.highTimer s
  else setLevelTimers none m.highTimer s

/-- The level mechanism; not READY, LEVEL_LOW keeps its value and both timers are stopped (R177, R181). -/
def levelMechanism (active : Bool) (s : State) : State :=
  if active then judgeLevelLow s.sensors.inputs.level.scaled s else setLevelTimers none none s

/-- A manifold's dry timer stopped at 0. -/
def stopDry (m : Manifold) (s : State) : State :=
  match m with
  | .a => { s with sensors := { s.sensors with dryA := none } }
  | .b => { s with sensors := { s.sensors with dryB := none } }

/-- The dry mechanism of a manifold (R177, R183). -/
def dryMechanism (m : Manifold) (active : Bool) (s : State) : State := if active then judgeDry m s else stopDry m s

/-- An input's own mechanism. It is active when the input was READY and still is: one that becomes READY at this
sample resumes at the next (R177). -/
def mechanism (i : AnalogInput) (active : Bool) (s : State) : State :=
  match i with
  | .wind => windMechanism active s
  | .level => levelMechanism active s
  | .pressA => dryMechanism .a active s
  | .pressB => dryMechanism .b active s

/-- The input's due mark spent. -/
def spendSample (i : AnalogInput) (s : State) : State :=
  { s with sensors := { s.sensors with due := s.sensors.due.put i false } }

/-- A sample of one input, one event (R175): the record, the fault source of an entry into FAILED, the mechanism. -/
def sample (i : AnalogInput) (raw : BitVec 12) (s : State) : State :=
  let before := s.sensors.inputs.get i
  let after := sampledRecord (rangeTop i) (scalingOf i s.config) raw before
  let s := setInput i after (spendSample i s)
  let s := if before.health = .ready ∧ after.health = .failed then latch (sensorSource i) s else s
  mechanism i (before.health == .ready && after.health == .ready) s

/-! ### The gust bins (R179) -/

/-- A second boundary: the bin current longest ago becomes current and takes w_f (R179). -/
def turnBin (m : SensorMonitor) : SensorMonitor :=
  let next : Fin 10 := m.currentBin + 1
  { m with secondDue := false, currentBin := next, bins := m.bins.set next m.filtered }

/-! ### The dry-run detection (R183) -/

/-- A manifold's dry timer. -/
def dryTimer (m : Manifold) (s : State) : Option Nat :=
  match m with
  | .a => s.sensors.dryA
  | .b => s.sensors.dryB

/-- A dry-run detection: the source latches, the manifold's PRIMING and RUNNING pumps fault, the timer stops (R183). -/
def detectDry (m : Manifold) (s : State) : State := stopDry m (forJets (faultDryOn m) (latch (drySource m) s))

/-! ### The interlock inputs (R184 to R187) -/

/-- The number of DRIVE_FAULT j among the inputs (10.5). -/
def driveInput (j : Jet) : Fin 14 := ⟨2 + j.val, by omega⟩

/-- An input's due mark spent (R184; log 16). -/
def spendInput (n : Fin 14) (s : State) : State := { s with locks := { s.locks with due := s.locks.due.set n false } }

/-- ESTOP becomes RELEASED (R185): the trip stays. -/
def releaseEstop (s : State) : State := { s with locks := { s.locks with estop := false } }

/-- ESTOP becomes ASSERTED (R185): with the trip clear, the trip, its source, and SAFE. -/
def assertEstop (s : State) : State :=
  let s := { s with locks := { s.locks with estop := true } }
  if s.locks.estopTrip then s
  else settle [] (enterSafe (latch .estop { s with locks := { s.locks with estopTrip := true } }))

/-- The AUX trip begins (R186): its source latches and the AUX park cause is present. -/
def beginAux (s : State) : State := addCause .aux (latch .aux { s with locks := { s.locks with auxTrip := true } })

/-- AUX becomes ASSERTED (R186). -/
def assertAux (s : State) : State :=
  let s := { s with locks := { s.locks with aux := true } }
  if s.locks.auxTrip then s else beginAux s

/-- AUX becomes RELEASED (R186): a following trip ends and its park cause is cleared. -/
def releaseAux (s : State) : State :=
  let s := { s with locks := { s.locks with aux := false } }
  if s.locks.auxTrip ∧ s.config.auxLatching = false then
    removeCause .aux { s with locks := { s.locks with auxTrip := false } }
  else s

/-- DRIVE_FAULT j's qualified state set. -/
def setDrive (j : Jet) (asserted : Bool) (s : State) : State :=
  { s with locks := { s.locks with drive := s.locks.drive.set j asserted } }

/-- Trip j set. -/
def setTrip (j : Jet) (present : Bool) (s : State) : State :=
  { s with locks := { s.locks with driveTrips := s.locks.driveTrips.set j present } }

/-- The pump mask's bit j set, and with it the source DRIVE_FAULT (R187, R193). -/
def maskPump (j : Jet) (s : State) : State :=
  latch .driveFault { s with faults := { s.faults with pumpMask := s.faults.pumpMask ||| (1#12 <<< j.val) } }

/-- DRIVE_FAULT j of an enabled jet becomes ASSERTED (R187): with trip j absent, the trip begins. -/
def assertDrive (j : Jet) (s : State) : State :=
  let s := setDrive j true s
  if s.locks.driveTrips[j] then s else faultDrive j (maskPump j (setTrip j true s))

/-- DRIVE_FAULT j of an enabled jet becomes RELEASED (R187): a following trip ends; the pump is not released. -/
def releaseDrive (j : Jet) (s : State) : State :=
  let s := setDrive j false s
  if s.config.driveLatching j then s else setTrip j false s

end Sys2Proof.Machine
end

