-- ==== Sys2Proof/Machine/PumpCommands.lean ====
section
/-! DEFINITION. The commands of the pumps: PRIMING_START, PRIME_END, RUN_DOWN_END and DRY_RUN_DETECTION
(R146 to R148, R183). -/

namespace Sys2Proof.Machine

/-- PRIMING_START (R146): the prime-ready timer shows 500 × j ms for a PARKED pump j. -/
def execPrimingStart (j : Jet) (s : State) : Host.Outcome State Fault Refusal :=
  if primeReadyFor j s then .next (startPriming j s) else .next s

/-- The pressure test of a prime end finds the manifold dry: the input READY and below P_MIN (R147). -/
def primeDry (m : Manifold) (s : State) : Bool :=
  let r := s.sensors.inputs.get (pressureInput m)
  r.health == .ready && r.scaled < s.config.pMin

/-- PRIME_END (R147): the prime timer reaches T_PRIME. -/
def execPrimeEnd (j : Jet) (s : State) : Host.Outcome State Fault Refusal :=
  if s.jets.pumps[j].state = .priming ∧ s.config.tPrime ≤ s.jets.pumps[j].primeTimer then
    if primeDry (manifoldOf j) s then .next (faultDry j (latch (drySource (manifoldOf j)) s))
    else .next (enterRunning j s)
  else .next s

/-- RUN_DOWN_END (R148): the run-down timer reaches the configured run-down. -/
def execRunDownEnd (j : Jet) (s : State) : Host.Outcome State Fault Refusal :=
  if s.jets.pumps[j].state = .parking ∧ s.config.runDown ≤ s.jets.pumps[j].runDownTimer then
    .next (arriveParked j s)
  else .next s

/-- DRY_RUN_DETECTION (R183): a manifold's dry timer reaches 2,000 ms. -/
def execDryRunDetection (m : Manifold) (s : State) : Host.Outcome State Fault Refusal :=
  if timerShows 2000 (dryTimer m s) then .next (detectDry m s) else .next s

end Sys2Proof.Machine
end

