-- ==== Sys2Proof/Machine/ResetCommands.lean ====
section
/-! DEFINITION. RESET and START_UP_SEQUENCE (R189, R190). -/

namespace Sys2Proof.Machine

/-- RESET (R189): every block takes its reset values, whatever the part was doing. The commands that wait stay, and the
model's own count of ticks goes on, so that each tick after a reset reads pin levels of its own (DESIGN CHOICE,
unsafe: log 16). -/
def execReset (s : State) : Host.Outcome State Fault Refusal :=
  .next { State.reset with pending := s.pending, ticks := s.ticks }

/-- The straps sampled, once (R190 step 1). The station's generator is seeded from its number (00 Conventions). -/
def sampleStraps (straps : BitVec 5) (s : State) : State :=
  { s with phase := .startUp, station := straps.toNat, generator := Config.generatorSeed straps.toNat }

/-- START_UP_SEQUENCE (R190): the straps, then the CONFIG demand for page 0. -/
def execStartUpSequence (straps : BitVec 5) (s : State) : Host.Outcome State Fault Refusal :=
  if powered s then .next s else .next (settle [.demand .startUp 0] (sampleStraps straps s))

end Sys2Proof.Machine
end

