-- ==== Sys2Proof/Machine/SensorCommands.lean ====
section
/-! DEFINITION. The commands of the sensors and the interlocks: SENSOR_SAMPLE, WARM_UP_END, SECOND_BOUNDARY, and the
qualified ESTOP, AUX and DRIVE_FAULT inputs (R175, R176, R179, R184 to R187). -/

namespace Sys2Proof.Machine

/-- SENSOR_SAMPLE (R175): an input's sample is due every 10 ms. -/
def execSensorSample (i : AnalogInput) (raw : BitVec 12) (s : State) : Host.Outcome State Fault Refusal :=
  if started s ∧ s.sensors.due.get i then .next (sample i raw s) else .next s

/-- WARM_UP_END (R176): the warm-up time has passed. -/
def execWarmUpEnd (s : State) : Host.Outcome State Fault Refusal :=
  if s.sensors.warmUp = some 0 then .next (endWarmUp s) else .next s

/-- SECOND_BOUNDARY (R179): every 1,000 ms from the end of start-up. -/
def execSecondBoundary (s : State) : Host.Outcome State Fault Refusal :=
  if s.sensors.secondDue then .next { s with sensors := turnBin s.sensors } else .next s

/-- ESTOP_ASSERTED (R184, R185): the input has qualified ASSERTED. No input is judged before the end of start-up. -/
def execEstopAsserted (s : State) : Host.Outcome State Fault Refusal :=
  if started s ∧ s.locks.due[0] ∧ s.locks.estop = false then .next (assertEstop (spendInput 0 s)) else .next s

/-- ESTOP_RELEASED (R184, R185): the trip stays latched. -/
def execEstopReleased (s : State) : Host.Outcome State Fault Refusal :=
  if started s ∧ s.locks.due[0] ∧ s.locks.estop then .next (releaseEstop (spendInput 0 s)) else .next s

/-- AUX_ASSERTED (R184, R186). -/
def execAuxAsserted (s : State) : Host.Outcome State Fault Refusal :=
  if started s ∧ s.locks.due[1] ∧ s.locks.aux = false then .next (assertAux (spendInput 1 s)) else .next s

/-- AUX_RELEASED (R184, R186). -/
def execAuxReleased (s : State) : Host.Outcome State Fault Refusal :=
  if started s ∧ s.locks.due[1] ∧ s.locks.aux then .next (releaseAux (spendInput 1 s)) else .next s

/-- Input j has qualified a change of its state, and its pump is not DISABLED (R184, R187). -/
def driveDue (j : Jet) (s : State) : Bool :=
  started s && s.locks.due[driveInput j] && s.jets.pumps[j].state != .disabled

/-- DRIVE_FAULT_ASSERTED (R184, R187): the input of a DISABLED pump is not judged. -/
def execDriveFaultAsserted (j : Jet) (s : State) : Host.Outcome State Fault Refusal :=
  if driveDue j s ∧ s.locks.drive[j] = false then .next (assertDrive j (spendInput (driveInput j) s)) else .next s

/-- DRIVE_FAULT_RELEASED (R184, R187): the input of a DISABLED pump is not judged. -/
def execDriveFaultReleased (j : Jet) (s : State) : Host.Outcome State Fault Refusal :=
  if driveDue j s ∧ s.locks.drive[j] then .next (releaseDrive j (spendInput (driveInput j) s)) else .next s

end Sys2Proof.Machine
end

