-- ==== Sys2Proof/Machine/ShowCommands.lean ====
section
/-! DEFINITION. START_REACHED (R99), TRACK_CUE_TAKEN (R117) and LAMP_FRAME_DONE (R162). -/

namespace Sys2Proof.Machine

/-- The start LT of a pending start has been reached in ARMED (R99). -/
def startReached (s : State) : Bool :=
  match s.ctl.state, startOffset s with
  | .armed, some q => 0 ≤ q
  | _, _ => false

/-- START_REACHED (R99): the start test finds q at or above 0. -/
def execStartReached (s : State) : Host.Outcome State Fault Refusal :=
  if startReached s then .next (settle [.startTest] s) else .next s

/-- TRACK_CUE_TAKEN (R117): the record at the read point is taken, and the read point moves on. -/
def execTrackCueTaken (s : State) : Host.Outcome State Fault Refusal :=
  match trackReady s with
  | some (record, due) => .next (settle [.advanceCue] (takeTrack record due s))
  | none => .next s

/-- LAMP_FRAME_DONE (R162): the last stop bit ends; a frame held back is built and sent. -/
def execLampFrameDone (s : State) : Host.Outcome State Fault Refusal :=
  match s.lamp.sending with
  | none => .next s
  | some _ =>
    .next
      { s with
        lamp := { s.lamp with
          sending := if s.lamp.heldBack then some (lampFrame s.lamp) else none
          heldBack := false } }

end Sys2Proof.Machine
end

