-- ==== Sys2Proof/Machine/Clock.lean ====
section
/-! DEFINITION. The Line Time Unit (R36 to R53), the millisecond timebase (03 3.1), and what they drive at a frame
boundary and at a control instant. -/

namespace Sys2Proof.Machine

/-- A change of the Line Time Unit inside the state. -/
def onLtu (g : LineTimeUnit → LineTimeUnit) (s : State) : State := { s with ltu := g s.ltu }

/-! ### The evaluation (R43 to R46, R51, R52) -/

/-- A value put in its ascending place. -/
def insertSorted (v : Int) : List Int → List Int
  | [] => [v]
  | x :: rest => if v ≤ x then v :: x :: rest else x :: insertSorted v rest

/-- A list sorted in ascending signed order. -/
def sortInts : List Int → List Int
  | [] => []
  | x :: rest => insertSorted x (sortInts rest)

/-- The lower median: the element at index floor((n - 1) / 2) of the sorted list (R43). -/
def lowerMedian (l : List Int) : Int := (sortInts l).getD ((l.length - 1) / 2) 0

/-- The empty count at which the unit enters FREE (R44). -/
def emptyLimit : Nat := 4

/-- An evaluation that takes no samples (R44). At the entry to FREE, where no rule names the rate, it stays as it was
(DESIGN CHOICE, unsafe: log 44). -/
def emptyEvaluation (s : State) : State :=
  if s.ltu.emptyCount + 1 < emptyLimit then onLtu (fun u => { u with emptyCount := u.emptyCount + 1 }) s
  else
    onLtu (fun u =>
      { u with clock := .free, correction := 0, spacing := 0, emptyCount := 0, near := 0, lastM := 0#32 }) s

/-- A near evaluation: |m| at most 24 (R51). -/
def isNear (m : Int) : Bool := m.natAbs ≤ 24

/-- The clock state and near count after a non-empty evaluation of m (R51, R52). -/
def clockAfter (m : Int) (u : LineTimeUnit) : ClockState × Nat :=
  match u.clock with
  | .free => (.acquiring, if isNear m then 1 else 0)
  | .acquiring =>
    if isNear m then (if 4 ≤ u.near + 1 then (.locked, 4) else (.acquiring, u.near + 1)) else (.acquiring, 0)
  | .locked => if m.natAbs ≤ 240 then (.locked, u.near) else (.acquiring, 0)

/-- What an evaluation of m does to line time, by its size and the show state it finds (R45). -/
inductive Correction where
  | deadband | slew (fast : Bool) | step
deriving DecidableEq, Repr

/-- The show state is RUNNING or ENDING. -/
def playing (s : State) : Bool := s.ctl.state == .running || s.ctl.state == .ending

/-- The correction of R45. -/
def correctionFor (m : Int) (isPlaying : Bool) : Correction :=
  if m.natAbs ≤ 2 then .deadband
  else if m.natAbs ≤ 2400 then .slew false
  else if isPlaying ∧ m.natAbs ≤ 48000 then .slew true
  else .step

/-- A pending correction set, replacing the one before; the spacing restarts at 0 (R46). -/
def setCorrection (c : Int) (fast : Bool) (s : State) : State :=
  onLtu (fun u => { u with correction := c, fast := fast, spacing := 0 }) s

/-- LT moved by a step of m at this frame boundary: the ordinary count is added with it, unless a slew action has made
this boundary's advance already (R48, R49). -/
def moveByStep (m : Int) (s : State) : State :=
  let ordinary : Int := if s.ltu.made.isSome then 0 else 1
  onLtu (fun u => { u with lt := ltAdd u.lt (ordinary + m), made := some .step }) s

/-- A backward step gives no control instant: N moves (R40). -/
def resetControl (m : Int) (s : State) : State :=
  if m < 0 then onLtu (fun u => { u with nextControl := nextControlAfter u.lt }) s else s

/-- A step of m (R49): no correction is left pending, and every stored offset follows. -/
def stepLine (m : Int) (s : State) : State :=
  resetControl m (moveByStep m (correctOffsets m (setCorrection 0 false s)))

/-- The correction of an evaluation applied (R45). In the deadband and at a step, where the table names no rate, the rate is
set to normal (DESIGN CHOICE, unsafe: log 44). -/
def applyCorrection (m : Int) (s : State) : State :=
  match correctionFor m (playing s) with
  | .deadband => setCorrection 0 false s
  | .slew fast => setCorrection m fast s
  | .step => stepLine m s

/-- The clock state moved by an evaluation of m, which becomes the last m (R45, R51, R53). -/
def moveClock (m : Int) (s : State) : State :=
  onLtu (fun u =>
    { u with clock := (clockAfter m u).1, near := (clockAfter m u).2, emptyCount := 0, lastM := BitVec.ofInt 32 m }) s

/-- A step of more than 48,000 counts while a show plays comes with a re-seek request (R50, R107). -/
def reSeekDue (m : Int) (s : State) : Bool := playing s && 48000 < m.natAbs

/-- The median of this evaluation: the own 0 and the samples (R43). -/
def evaluationMedian (s : State) : Int := lowerMedian (0 :: clockSamples s.config.syncGroup s.peers)

/-- The samples taken from the Peer Table (R33). -/
def takeSamples (s : State) : State := { s with peers := samplesTaken s.config.syncGroup s.peers }

/-- The first part of a beacon point (R43 to R46, R51). -/
def evaluate (s : State) : State :=
  if clockSamples s.config.syncGroup s.peers = [] then emptyEvaluation s
  else
    let m := evaluationMedian s
    let corrected := applyCorrection m (moveClock m (takeSamples s))
    if reSeekDue m s then settle [.reSeek] corrected else corrected

/-- The beacon schedule restarts: the next point lies 2^k + j ms on, j drawn from 0 to 7 (R41). -/
def scheduleBeacon (s : State) : State :=
  let jitter := draw 8 s
  onLtu (fun u => { u with beaconTimer := some (2 ^ s.config.beaconK + jitter) }) (afterDraw s)

/-! ### Slewing (R46, R47) -/

/-- The spacing of the current rate (R46). -/
def spacingOf (u : LineTimeUnit) : Nat := if u.fast then 100 else 1000

/-- A slew action is due at this frame boundary (R47). -/
def slewDue (u : LineTimeUnit) : Bool := u.correction != 0 && spacingOf u ≤ u.spacing && u.made.isNone

/-- A slew action (R47): LT advances by 2 or by 0, the correction moves one toward 0, every offset follows (R25). -/
def slew (s : State) : State :=
  if 0 < s.ltu.correction then
    onLtu (fun u => { u with lt := ltAdd u.lt 2, correction := u.correction - 1, spacing := 0, made := some .drop })
      (correctOffsets 1 s)
  else
    onLtu (fun u => { u with correction := u.correction + 1, spacing := 0, made := some .repeated })
      (correctOffsets (-1) s)

/-! ### The frame boundary (R36, R38, R164) -/

/-- LT makes its advance, unless a slew action or a step has made it, and the kind is handed over (R36, R38). -/
def advanceLine (s : State) : State :=
  match s.ltu.made with
  | none =>
    { s with ltu := { s.ltu with lt := ltAdd s.ltu.lt 1 }, audio := { s.audio with advance := .ordinary } }
  | some kind =>
    { s with ltu := { s.ltu with made := none }, audio := { s.audio with advance := kind } }

/-- The audio frame of the period that begins (R164): the reader moved, the early demand, the end of the show, and the
frame formed; zero where no show plays. -/
def audioFrame (s : State) : State :=
  match audioPosition s with
  | some a =>
    if playing s then settle [.moveAudio a, .earlyDemand a, .showEnd a, .formFrame a] s else sendFrame 0#16 0#16 s
  | none => sendFrame 0#16 0#16 s

/-- A frame period passes: the spacing count counts it while a correction is pending (R47). -/
def countSpacing (s : State) : State :=
  if s.ltu.correction = 0 then s
  else onLtu (fun u => { u with spacing := min (u.spacing + 1) (spacingOf u) }) s

/-! ### The millisecond timebase (R26, R41, R42, R146 to R153, R175, R176, R179, R181, R183; log 4) -/

/-- A pump's own timers one millisecond on: priming while s_out equals S_PRIME, run-down while PARKING (R147, R148). -/
def pumpTick (c : Configuration) (p : Pump) : Pump :=
  match p.state with
  | .priming => if p.sOut = c.sPrime then { p with primeTimer := min (p.primeTimer + 1) c.tPrime } else p
  | .parking => { p with runDownTimer := min (p.runDownTimer + 1) c.runDown }
  | .disabled => p
  | .parked => p
  | .running => p
  | .faulted => p

/-- The Jet Drive Unit's timers one millisecond on (R136). -/
def jetsTick (c : Configuration) (d : JetDrive) : JetDrive :=
  { d with
    pumps := Vector.ofFn fun j : Jet => pumpTick c d.pumps[j]
    primeReady := timerTick 5500 d.primeReady
    windResume := timerTick 30000 d.windResume
    levelResume := timerTick 60000 d.levelResume }

/-- The Sensor Monitor's timers one millisecond on (R175, R176, R179, R181, R183). -/
def sensorsTick (m : SensorMonitor) : SensorMonitor :=
  let ms := (m.ms + 1) % 1000
  let sample := (m.ms + 1) % 10 == 0
  { m with
    ms := ms
    due := ⟨m.due.wind || sample, m.due.level || sample, m.due.pressA || sample, m.due.pressB || sample⟩
    secondDue := m.secondDue || ms == 0
    warmUp := m.warmUp.map (· - 1)
    lowTimer := timerTick 2000 m.lowTimer
    highTimer := timerTick 60000 m.highTimer
    dryA := timerTick 2000 m.dryA
    dryB := timerTick 2000 m.dryB }

/-! ### The interlock inputs at a tick (R184, R187; log 16) -/

/-- The inputs at their active level, from the levels of the pins (R184). -/
def activeInputs (c : Configuration) (levels : BitVec 14) : Vector Bool 14 :=
  Vector.ofFn fun n : Fin 14 => levels.getLsbD n.val == c.activeHigh.getLsbD n.val

/-- The fourteen qualified states. -/
def qualifiedStates (l : Interlocks) : Vector Bool 14 := #v[l.estop, l.aux] ++ l.drive

/-- Which inputs are judged: not the DRIVE_FAULT of a DISABLED pump (R187). -/
def judgedInputs (d : JetDrive) : Vector Bool 14 :=
  #v[true, true] ++ d.pumps.map fun p => p.state != .disabled

/-- An input has stood at two consecutive ticks at the level its qualified state is not at (R184). -/
def levelQualifies (qualified active : Bool) (seen : Option Bool) : Bool :=
  active != qualified && seen == some active

/-- The interlock inputs at a tick (R184): a judged input that qualifies is due to change its state. -/
def judgeInputs (c : Configuration) (d : JetDrive) (levels : BitVec 14) (l : Interlocks) : Interlocks :=
  let active := activeInputs c levels
  { l with
    seen := some active
    due := Vector.ofFn fun n : Fin 14 =>
      l.due[n] || ((judgedInputs d)[n] && levelQualifies (qualifiedStates l)[n] active[n] (l.seen.map fun v => v[n])) }

/-- A millisecond tick for every timer of the part, and for the interlock inputs. Those of the blocks start with the end
of start-up. R29 lets the age step of a record be taken before or after a read at that instant; here it is taken in the
same act that runs the beacon timer out, so before that beacon point reads its samples (DESIGN CHOICE, unsafe: log 33). The
levels of the interlock pins at a tick are a free value of that tick alone, also after a reset (log 16). -/
def millisecond (s : State) : State :=
  let s := { s with ticks := s.ticks + 1, flash := { s.flash with timer := timerTick 5 s.flash.timer } }
  match s.phase with
  | .running =>
    { s with
      peers := agePeers s.peers
      ltu := { s.ltu with beaconTimer := s.ltu.beaconTimer.map (· - 1) }
      sensors := sensorsTick s.sensors
      jets := jetsTick s.config s.jets
      locks := judgeInputs s.config s.jets (Config.interlockLevels s.ticks) s.locks }
  | .startUp => s
  | .inReset => s

/-- Frame periods counted into milliseconds: tick n falls at frame boundary 48 n (03 3.1; log 4). -/
def countPeriod (s : State) : State :=
  if s.framePhase + 1 < Config.framesPerMs then { s with framePhase := s.framePhase + 1 }
  else millisecond { s with framePhase := 0 }

/-- A frame boundary (R36), and the frame period that begins at it. -/
def frameStep (s : State) : State := countPeriod (countSpacing (audioFrame (advanceLine s)))

/-! ### The control instant (R39) -/

/-- LT has reached N (R39). -/
def controlDue (u : LineTimeUnit) : Bool := atOrAfter u.lt u.nextControl

/-- N moves on (R39). -/
def moveControl (s : State) : State := onLtu (fun u => { u with nextControl := nextControlAfter u.lt }) s

/-- The Show Controller's checks of ENDING (R111): the fade end sets END, and from that instant on finished pumps end the
show, though a step may have put LT before the fade end again. -/
def endingChecks (s : State) : State :=
  match s.ctl.state, s.ctl.fadeEnd with
  | .ending, some e =>
    if fadeEnded e s then
      let s := addCause .ending s
      if pumpsFinished s then teardownToIdle s else s
    else s
  | _, _ => s

/-- What the blocks do at a control instant, in the model's order (log 11): cues released, park causes judged, speeds
computed, lights computed, the lamp link, the checks of ENDING, the join test. -/
def controlWork (s : State) : State :=
  autoJoin (endingChecks (lampLink (computeLights (driveCompute (judgeLevel (judgeWind (releaseCues s)))))))

end Sys2Proof.Machine
end

