-- ==== Sys2Proof/Machine/TimeCommands.lean ====
section
/-! DEFINITION. The commands of line time: BEACON_POINT, SLEW_ACTION, FRAME_BOUNDARY and CONTROL_INSTANT
(R36 to R53), and PEER_REMOVAL (R27). -/

namespace Sys2Proof.Machine

/-- BEACON_POINT (R42): when the schedule's count has run out, the evaluation, then the beacon; the next point is drawn. -/
def execBeaconPoint (s : State) : Host.Outcome State Fault Refusal :=
  if started s ∧ s.ltu.beaconTimer = some 0 then
    .next (startDeferral (scheduleBeacon (placeBeacon (evaluate s))))
  else .next s

/-- SLEW_ACTION (R47): when one is due at this frame boundary. -/
def execSlewAction (s : State) : Host.Outcome State Fault Refusal :=
  if slewDue s.ltu then .next (slew s) else .next s

/-- FRAME_BOUNDARY (R36): from the first one after reset ends. -/
def execFrameBoundary (s : State) : Host.Outcome State Fault Refusal :=
  if powered s then .next (frameStep s) else .next s

/-- CONTROL_INSTANT (R39): when LT is at or after N. Before the end of start-up it sets N and no block works. -/
def execControlInstant (s : State) : Host.Outcome State Fault Refusal :=
  if powered s ∧ controlDue s.ltu then
    .next (if started s then settle [] (controlWork (moveControl s)) else moveControl s)
  else .next s

/-- PEER_REMOVAL (R27): a station's record that has reached removal age leaves the table. -/
def execPeerRemoval (station : Nat) (s : State) : Host.Outcome State Fault Refusal :=
  if s.peers.any fun p => p.station == station && removalAge ≤ p.age then
    .next { s with peers := withoutPeer station s.peers }
  else .next s

end Sys2Proof.Machine
end

