-- ==== Sys2Proof/Machine/Dispatch.lean ====
section
/-! DEFINITION. The dispatch: one arm per command, each one direct call of its meaning. -/

namespace Sys2Proof.Machine

def exec (i : Instr) (s : State) : Host.Outcome State Fault Refusal :=
  match i with
  | .reset => Sys2Proof.Machine.execReset s
  | .startUpSequence straps => Sys2Proof.Machine.execStartUpSequence straps s
  | .lineIdleDetection => Sys2Proof.Machine.execLineIdleDetection s
  | .lineBusy => Sys2Proof.Machine.execLineBusy s
  | .deferralExpiry => Sys2Proof.Machine.execDeferralExpiry s
  | .attemptSucceeded => Sys2Proof.Machine.execAttemptSucceeded s
  | .attemptFailed bit => Sys2Proof.Machine.execAttemptFailed bit s
  | .beaconPoint => Sys2Proof.Machine.execBeaconPoint s
  | .slewAction => Sys2Proof.Machine.execSlewAction s
  | .frameBoundary => Sys2Proof.Machine.execFrameBoundary s
  | .startReached => Sys2Proof.Machine.execStartReached s
  | .controlInstant => Sys2Proof.Machine.execControlInstant s
  | .lampFrameDone => Sys2Proof.Machine.execLampFrameDone s
  | .peerRemoval station => Sys2Proof.Machine.execPeerRemoval station s
  | .primingStart jet => Sys2Proof.Machine.execPrimingStart jet s
  | .primeEnd jet => Sys2Proof.Machine.execPrimeEnd jet s
  | .runDownEnd jet => Sys2Proof.Machine.execRunDownEnd jet s
  | .sensorSample input raw => Sys2Proof.Machine.execSensorSample input raw s
  | .warmUpEnd => Sys2Proof.Machine.execWarmUpEnd s
  | .secondBoundary => Sys2Proof.Machine.execSecondBoundary s
  | .dryRunDetection manifold => Sys2Proof.Machine.execDryRunDetection manifold s
  | .estopAsserted => Sys2Proof.Machine.execEstopAsserted s
  | .estopReleased => Sys2Proof.Machine.execEstopReleased s
  | .auxAsserted => Sys2Proof.Machine.execAuxAsserted s
  | .auxReleased => Sys2Proof.Machine.execAuxReleased s
  | .driveFaultAsserted jet => Sys2Proof.Machine.execDriveFaultAsserted jet s
  | .driveFaultReleased jet => Sys2Proof.Machine.execDriveFaultReleased jet s
  | .flashReady => Sys2Proof.Machine.execFlashReady s
  | .flashTimeout => Sys2Proof.Machine.execFlashTimeout s
  | .retirement page verdicts => Sys2Proof.Machine.execRetirement page verdicts s
  | .trackCueTaken => Sys2Proof.Machine.execTrackCueTaken s
  | .byteReceived bits => Sys2Proof.Machine.execByteReceived bits s

end Sys2Proof.Machine
end

