-- ==== Sys2Proof/Machine/Outputs.lean ====
section
/-! DEFINITION. The output pins, worked out from the state (00 Signal pins; R1, R143, R144, R157, R163, R189, R194). -/

namespace Sys2Proof.Machine

/-- RUN j: on in PRIMING, RUNNING and PARKING (R144). -/
def runPin (s : State) (j : Jet) : Bool :=
  match s.jets.pumps[j].state with
  | .priming => true
  | .running => true
  | .parking => true
  | .disabled => false
  | .parked => false
  | .faulted => false

/-- VALVE j: open in RUNNING and PARKING (R144). -/
def valvePin (s : State) (j : Jet) : Bool :=
  match s.jets.pumps[j].state with
  | .running => true
  | .parking => true
  | .disabled => false
  | .parked => false
  | .priming => false
  | .faulted => false

/-- SPEED j: the duty in ‰ (R143, R144). -/
def speedPin (s : State) (j : Jet) : Nat := s.jets.pumps[j].sOut

/-- FAULT: asserted while the SAFETY or the HYDRAULIC group bit is true, once start-up has ended (R194). -/
def faultPin (s : State) : Bool := started s && (groupBit .safety s || groupBit .hydraulic s)

/-- STATUS_LED: lit while LOCKED with no group bit true (R194). -/
def statusLed (s : State) : Bool :=
  started s && s.ltu.clock == .locked && allGroups.all fun g => !groupBit g s

/-- SL_DE during bit n of an attempt: asserted for a 0 bit, released for a 1 bit and outside an attempt (R1). -/
def driverEnable (s : State) (bit : Nat) : Bool :=
  match s.line.tx with
  | .sending _ _ frame => !((frameBits frame).getD bit true)
  | .quiet => false
  | .deferring _ => false

/-- SL_TX during bit n of an attempt: low in each 0 bit (R1). In a 1 bit and outside an attempt SL_DE is released, and the
level of SL_TX is free (log 39). -/
def slTx (s : State) (bit : Nat) : Bool := !driverEnable s bit && Config.slTxReleased s.ltu.lt bit

/-- LAMP_TX during bit n of a lamp frame; it idles at 1 (R157, R161). -/
def lampPin (s : State) (bit : Nat) : Bool :=
  match s.lamp.sending with
  | some frame => (frameBits frame).getD bit true
  | none => true

/-- The flash pins float while a reset source is active (R71, R189). -/
def flashFloats (s : State) : Bool := !powered s

/-- FL_CS selects the flash while the port carries an operation (R73). -/
def flashSelect (s : State) : Bool := powered s && s.flash.portBusy

/-- The two samples on I2S_SD in the present frame; the I2S pins are low in reset (R163, R189). -/
def i2sFrame (s : State) : BitVec 16 × BitVec 16 := if powered s then (s.audio.left, s.audio.right) else (0#16, 0#16)

/-- Bit clocks in a half frame (R163). -/
def halfClocks : Nat := 32

/-- I2S_BCLK in the low, then the high half of a bit clock of the frame, 0 to 63; low in reset (R163, R189; log 40). -/
def i2sBclk (s : State) (secondHalf : Bool) : Bool := powered s && secondHalf

/-- I2S_LRCK in bit clock n of the frame, 0 to 63: low for the left half, high for the right; low in reset (R163, R189). -/
def i2sLrck (s : State) (n : Nat) : Bool := powered s && decide (halfClocks ≤ n)

/-- The bit of a half frame's bit clock n, 0 to 31: the sample from the second on, most significant bit first, then zeros
(R163). Of the first R163 says nothing: it is free (log 40). -/
def halfFrameBit (sample : BitVec 16) (lead : Bool) (n : Nat) : Bool :=
  if n = 0 then lead else if n ≤ 16 then sample.getLsbD (16 - n) else false

/-- I2S_SD in bit clock n of the frame, 0 to 63, from the falling edge of BCLK that begins it; low in reset (R163, R189). -/
def i2sSd (s : State) (n : Nat) : Bool :=
  let right := decide (halfClocks ≤ n)
  powered s &&
    halfFrameBit (if right then s.audio.right else s.audio.left) (Config.i2sLeadBit s.ltu.lt right) (n % halfClocks)

end Sys2Proof.Machine
end

