-- ==== Sys2Proof/Safety.lean ====
section
/-! DEFINITION. What holds of every state a run from reset reaches: the spec's whole-machine rules as predicates, each
one kept by every step. A rule that needs help to be kept stands with the clauses that help it. -/

namespace Sys2Proof.Machine

/-! ### Reset -/

/-- While a reset source is active the part stands at its reset values, whatever commands wait and however many ticks the
model has counted (R189, log 16). -/
def ResetHeld (s : State) : Prop := s.phase = .inReset → { s with pending := [], ticks := 0 } = State.reset

/-! ### Line Port (R9, R12, R14, R18) -/

/-- While no broken byte has come, the assembler holds every byte it has counted, up to 102 (R4). -/
def ReceiverHeld (s : State) : Prop :=
  s.line.rx.broken = false → s.line.rx.bytes.length = min s.line.rx.count storedLimit

/-- A slot is SENDING exactly while an attempt sends its frame; failed attempts stay below the eighth; a count runs on an
idle line only, and an attempt holds the line BUSY; the assembler's bytes are those it counted (R4, R9, R12, R14, R16, R17). -/
def LinePortHeld (s : State) : Prop :=
  ReceiverHeld s ∧
  (∀ x : SlotId, (slotAt x s.line).use = .sending ↔ ∃ t f, s.line.tx = .sending x t f) ∧
  s.line.beacon.attempts ≤ 7 ∧ s.line.status.attempts ≤ 7 ∧ s.line.giveUps ≤ 4 ∧
  (isDeferring s.line.tx = true → s.line.view = .idle) ∧ (isSending s.line.tx = true → s.line.view = .busy)

/-- In LISTEN-ONLY, and before the end of start-up, neither slot is filled and no attempt is made (R8, R18). -/
def SilentHeld (s : State) : Prop :=
  (s.station = 0 ∨ s.phase ≠ .running) →
    s.line.beacon.use = .empty ∧ s.line.status.use = .empty ∧ s.line.buildPending = false ∧ s.line.tx = .quiet

/-! ### Peer Table (R20, R23, R26) -/

/-- The table holds at most 30 records in ascending station order, none of them the part's own, each in its ranges. -/
def PeersHeld (s : State) : Prop :=
  s.peers.length ≤ 30 ∧ s.peers.Pairwise (fun p q => p.station < q.station) ∧
  ∀ p ∈ s.peers, 1 ≤ p.station ∧ p.station ≤ 31 ∧ p.station ≠ s.station ∧ p.age ≤ removalAge ∧ p.windHeld ≤ 600

/-! ### Line Time Unit (R39, R47, R52) -/

/-- N is a multiple of 480; the counts lie in their ranges; with no correction pending the spacing rests at 0. -/
def LineTimeHeld (s : State) : Prop :=
  s.ltu.nextControl.toNat % 480 = 0 ∧ s.ltu.near ≤ 4 ∧ s.ltu.emptyCount < 4 ∧
  (s.ltu.correction = 0 → s.ltu.spacing = 0)

/-! ### Flash Stream Engine (R71, R72, R77, R79) -/

/-- The entries the port is working on. -/
def onPort (q : List QueueEntry) : List QueueEntry := q.filter fun e => e.state == .loading || e.state == .transfer

/-- The slots in RESERVED. -/
def reservedSlots (f : FlashEngine) : List (Fin 16) :=
  slotIds.filter fun i => match f.slots[i] with
    | .reserved _ _ => true
    | _ => false

/-- At most 8 entries; as many RESERVED slots; no two entries of one page or one slot; each entry's slot RESERVED for its
page and stream; no page of an entry FILLED; the port busy exactly while entries are occupied, with one of them on it. -/
def FlashHeld (s : State) : Prop :=
  s.flash.queue.length ≤ queueLimit ∧ (reservedSlots s.flash).length = s.flash.queue.length ∧
  (s.flash.queue.map (·.page)).Nodup ∧ (s.flash.queue.map (·.slot)).Nodup ∧
  (∀ e ∈ s.flash.queue, s.flash.slots[e.slot] = .reserved e.page e.stream) ∧
  (∀ e ∈ s.flash.queue, ∀ i : Fin 16, (s.flash.slots[i]).isFilled e.page = false) ∧
  (∀ e ∈ s.flash.queue, e.state ≠ .done) ∧
  (s.flash.portBusy = true ↔ s.flash.queue ≠ []) ∧
  (onPort s.flash.queue).length = (if s.flash.portBusy then 1 else 0) ∧
  s.flash.slotFreed = false ∧ s.flash.heldNow = []

/-- The index cache holds at most 4 pages; depths lie in their ranges (R65, R84). -/
def StreamsHeld (s : State) : Prop :=
  s.flash.cache.length ≤ cacheLimit ∧ 2 ≤ s.flash.audio.depth ∧ s.flash.audio.depth ≤ 6 ∧
  2 ≤ s.flash.cue.depth ∧ s.flash.cue.depth ≤ 3

/-- The stream a read of a purpose belongs to: AUDIO and CUE reads to theirs, the others to none (R71). -/
def purposeStream : Purpose → Option StreamId
  | .audio => some .audio
  | .cue => some .cue
  | .config | .directory | .header | .index => none

/-- An entry belongs to the stream of its purpose; a FILLED or IN_USE slot belongs to a stream, for the pages of the others
pass through their slots; and a CONFIG entry is that of page 0 in start-up (R71, R76, R77, R190). -/
def OwnedHeld (s : State) : Prop :=
  (∀ e ∈ s.flash.queue, e.stream = purposeStream e.purpose) ∧
  (∀ i : Fin 16, (s.flash.slots[i]).content.isSome = true →
    (s.flash.slots[i]).heldFor .audio = true ∨ (s.flash.slots[i]).heldFor .cue = true) ∧
  ∀ e ∈ s.flash.queue, e.purpose = .config → e.page = 0 ∧ s.phase = .startUp

/-- The reads of an ARMING in hand: its directory or its header. -/
def armReads (f : FlashEngine) : List QueueEntry :=
  f.queue.filter fun e => (e.purpose == .directory || e.purpose == .header) && !e.discard

/-- The ARMING has one directory or header request at a time, an entry or a pending demand, and none once the show is
described or where none is held; lookups wait only while it is described, each for a segment of it (R66, R102, R103, R112). -/
def RequestsHeld (s : State) : Prop :=
  (armReads s.flash).length + (if s.flash.armDemand.isSome then 1 else 0) ≤ 1 ∧
  (s.flash.description ≠ none ∨ s.ctl.state = .idle ∨ s.ctl.state = .safe →
    armReads s.flash = [] ∧ s.flash.armDemand = none) ∧
  (s.ctl.state = .idle ∨ s.ctl.state = .safe → s.flash.description = none) ∧
  (s.flash.description = none → s.flash.lookups = []) ∧
  ∀ d, s.flash.description = some d → ∀ l ∈ s.flash.lookups, l.segment < d.segments

/-- The audio delay in use is one that the configuration check lets pass (R191). -/
def DelayHeld (s : State) : Prop := s.config.audioDelay ≤ 4800

/-! ### Show Controller (R94, R100, R112) -/

/-- The state holds no show: what teardown leaves (R112). -/
def NoShow (s : State) : Prop :=
  s.ctl.number = none ∧ s.ctl.startLt = none ∧ s.ctl.fadeEnd = none ∧ s.cues.entries = [] ∧
  s.flash.audio.on = false ∧ s.flash.cue.on = false ∧ s.flash.description = none ∧ s.jets.causes.ending = true

/-- A stream that is OFF holds no segment record and no page, and no lookup waits for it (R84). -/
def OffHeld (s : State) : Prop :=
  ∀ x : StreamId, (streamOf x s.flash).on = false →
    (streamOf x s.flash).current = none ∧ (streamOf x s.flash).next = none ∧ (streamOf x s.flash).page = none ∧
    ∀ l ∈ s.flash.lookups, l.who ≠ .stream x

/-- Before the end of start-up the show state is IDLE: no frame is dispatched and no block works (R8, R39, R184). -/
def EarlyHeld (s : State) : Prop := s.phase ≠ .running → s.ctl.state = .idle

/-- In IDLE and SAFE no show is held; a stream that is OFF holds nothing. -/
def IdleHeld (s : State) : Prop :=
  EarlyHeld s ∧
  (s.ctl.state = .idle ∨ s.ctl.state = .safe → NoShow s) ∧ OffHeld s

/-! ### Cue Queue (R116) -/

/-- At most 48 entries, at most 40 of them TRACK. -/
def CuesHeld (s : State) : Prop :=
  s.cues.entries.length ≤ cueLimit ∧ (s.cues.entries.filter fun e => e.source == .track).length ≤ trackLimit

/-! ### Jet Drive Unit (R136, R141, R143, R144) -/

/-- For every jet s_out ≤ s_b and 1000 × s_out³ ≤ k × s_req³; and k × T ≤ 1000 × L for a limited feed. -/
def PowerHeld (s : State) : Prop :=
  (∀ j : Jet, s.jets.pumps[j].sOut ≤ s.jets.pumps[j].sB ∧
    1000 * s.jets.pumps[j].sOut ^ 3 ≤ s.jets.k * s.jets.pumps[j].sReq ^ 3) ∧
  (s.config.feedLimit ≠ 0 → s.jets.k * s.jets.total ≤ 1000 * s.config.feedLimit)

/-- A pump that is not PRIMING or RUNNING stands at speed 0 (R144). -/
def StoppedHeld (s : State) : Prop :=
  ∀ j : Jet, s.jets.pumps[j].state ≠ .priming → s.jets.pumps[j].state ≠ .running →
    s.jets.pumps[j].sReq = 0 ∧ s.jets.pumps[j].sB = 0 ∧ s.jets.pumps[j].sOut = 0

/-- No PRIMING or RUNNING pump while a park cause is present (R148). -/
def ParkHeld (s : State) : Prop :=
  noCause s = false → ∀ j : Jet, s.jets.pumps[j].state ≠ .priming ∧ s.jets.pumps[j].state ≠ .running

/-! ### Lamp Output (R159, R160) -/

/-- The Lamp Output's copy of s_out is the pump's; until the end of start-up every slot is black; and outside SAFE a light
bound to a jet at speed 0 is black (R157, R159). -/
def LampHeld (s : State) : Prop :=
  (∀ j : Jet, s.lamp.speeds[j] = s.jets.pumps[j].sOut) ∧
  (s.phase ≠ .running → (∀ i : Jet, s.lamp.slots[i] = black) ∧ ∀ j : Jet, s.lamp.speeds[j] = 0) ∧
  (s.ctl.state ≠ .safe → ∀ i j : Jet, s.config.lights[i].binding = some j → s.lamp.speeds[j] = 0 → s.lamp.slots[i] = black)

/-- A light at SAFE_LIGHT. -/
def safeColour (s : State) : Rgb :=
  ⟨s.config.safeLight.toNat, s.config.safeLight.toNat, s.config.safeLight.toNat⟩

/-- In SAFE every RUN output is off, every valve is closed, the audio output is zero and every enabled light is at
SAFE_LIGHT (R160); the part is in SAFE only after the end of start-up. -/
def SafeHeld (s : State) : Prop :=
  s.ctl.state = .safe →
    s.phase = .running ∧ (∀ j : Jet, runPin s j = false ∧ valvePin s j = false) ∧
    s.audio.left = 0#16 ∧ s.audio.right = 0#16 ∧
    ∀ i : Jet, s.config.lights[i].enable = true → s.lamp.slots[i] = safeColour s

/-- The state is SAFE exactly while the ESTOP trip is set (R113, R114, R185). -/
def EstopHeld (s : State) : Prop :=
  (s.locks.estopTrip = true ↔ s.ctl.state = .safe) ∧ (s.locks.estop = true → s.locks.estopTrip = true) ∧
  (s.phase ≠ .running → s.locks.estopTrip = false ∧ s.locks.estop = false)

/-! ### Sensor Monitor (R174, R178, R179) -/

/-- An input's record lies in its ranges. -/
def inputHeld (top : Nat) (r : InputRecord) : Prop := r.scaled ≤ top ∧ r.bad ≤ 10 ∧ r.good ≤ 10

/-- w_f and every bin lie in 0 to 600, every scaled value and run count in its range (W_HIGH is below 600, R191). -/
def SensorsHeld (s : State) : Prop :=
  s.config.wHigh ≤ 600 ∧ s.sensors.filtered ≤ 600 ∧ (∀ i : Fin 10, s.sensors.bins[i] ≤ 600) ∧
  inputHeld 600 s.sensors.inputs.wind ∧ inputHeld 1000 s.sensors.inputs.level ∧
  inputHeld 1000 s.sensors.inputs.pressA ∧ inputHeld 1000 s.sensors.inputs.pressB

/-! ### Counters (R196) -/

/-- Every counter lies in 0 to 65,535. -/
def CountersHeld (s : State) : Prop := ∀ n ∈ counterList s.counters, n ≤ 65535

/-! ### Faults (R193) -/

/-- DRIVE_FAULT is set exactly while a bit of its mask is (R187, R193). -/
def PumpMaskHeld (s : State) : Prop := isLatched .driveFault s = true ↔ s.faults.pumpMask ≠ 0#12

/-! ### A frame at an idle detection (R6, R8) -/

/-- The line can go idle: BUSY, and no attempt of the part's own (R3). -/
def IdleComes (s : State) : Prop := s.phase ≠ .inReset ∧ s.line.view = .busy ∧ isSending s.line.tx = false

/-- No frame of the part's own waits for the line. -/
def NothingWaits (s : State) : Prop := chosenSlot s.line = none

/-- At the idle detection that comes, a valid frame of another station ends, after start-up (R6, R8). -/
def FrameEnds (kind source : Nat) (payload : List Byte) (s : State) : Prop :=
  IdleComes s ∧ s.phase = .running ∧ s.line.rx.count ≠ 0 ∧ judgeFrame s.line.rx = .valid kind source payload ∧
  source ≠ s.station

/-- The state after an idle detection, before the frame is taken (R3, R4). -/
def afterIdle (s : State) : State := { s with line := { s.line with view := .idle, rx := Receiver.cleared true } }

/-! ### Where a start and a seek leave the streams (R63, R66, R85, R105) -/

/-- Every entry the show uses of an index page that the cache holds is good (R63). -/
def IndexSound (d : ShowDescription) (s : State) : Prop :=
  ∀ h ∈ s.flash.cache, ∀ n, n < d.segments → n / 128 = h.number → entryGood n d.segments (h.entryOf n) = true

/-- No slot holds an index page of the show FILLED (R76): index pages pass through their slots. -/
def IndexUnfilled (d : ShowDescription) (s : State) : Prop :=
  ∀ i : Fin 16, ∀ k < (d.segments + 127) / 128, (s.flash.slots[i]).isFilled (d.firstIndex + k) = false

/-- A demand for a page stands for a stream: as an entry of the queue, or pending (R79, R80). -/
def Demanded (x : StreamId) (page : Nat) (s : State) : Prop :=
  (∃ e ∈ s.flash.queue, e.page = page ∧ e.kind = .demand ∧ e.stream = some x ∧ e.discard = false) ∨
  (streamOf x s.flash).pendingDemand = some page

/-- From a state s a stream is started at a position (R66, R85). Where the index page of the position's segment is held, the
segment's record is current and the reader is on the start page, which is demanded; otherwise the lookup waits. A CUE stream
whose segment has no cues passes on. -/
def StreamStarted (x : StreamId) (position : Nat) (s t : State) : Prop :=
  let segment := position / 48000
  (streamOf x t.flash).on = true ∧
  (cachedPage (segment / 128) s.flash = none →
    streamOf x t.flash = { StreamRecord.off with on := true } ∧
    { who := .stream x, segment := segment, use := .start position } ∈ t.flash.lookups) ∧
  ∀ h, cachedPage (segment / 128) s.flash = some h → x = .audio ∨ 1 ≤ (h.entryOf segment).cueCount →
    let e := h.entryOf segment
    let index := match x with
      | .audio => position % 48000 / 500
      | .cue => 0
    let page := match x with
      | .audio => e.firstAudio + index
      | .cue => e.firstCuePage
    (streamOf x t.flash).current = some ⟨segment, e⟩ ∧ (streamOf x t.flash).page = some ⟨segment, index, page⟩ ∧
    (streamOf x t.flash).depth = 2 ∧ Demanded x page t

/-- From a state s a seek to q (R105): the TRACK entries are gone, no page is held for a stream, both streams are started, the
AUDIO stream an audio delay earlier, and the CUE reader is in catch-up unless it has passed a segment without cues. -/
def SeekLeaves (q : Int) (s t : State) : Prop :=
  t.cues = { s.cues with entries := s.cues.entries.filter fun e => e.source == .live } ∧ t.audio.opening = none ∧
  StreamStarted .audio (max q 0 - s.config.audioDelay).toNat s t ∧ StreamStarted .cue q.toNat s t ∧
  ((∀ h, cachedPage (q.toNat / 48000 / 128) s.flash = some h → 1 ≤ (h.entryOf (q.toNat / 48000)).cueCount) →
    t.flash.reader = { CueReader.cleared with catchUp := some q }) ∧
  ∀ (i : Fin 16) (x : StreamId), (t.flash.slots[i]).heldFor x = false

end Sys2Proof.Machine
end

