-- ==== Sys2Proof/Certificates/Slice0/Obligations.lean ====
section
/-! DEFINITION. The statements for the provers. Every rule of spec/ a statement leans on stands in its docstring.
A next state is described by the fields that may differ from the state before; the record equation says that the others
are unchanged. -/

open Sys2Proof Sys2Proof.Machine

/-! ### The step, reset and start-up -/

/-- A step runs the command at the front of the queue with the queue's rest; on an empty queue the block idles (the
model's own queue, log 1). -/
def Obligations.StepRunsFrontCommand : Prop :=
  (∀ (c : Instr) (s : State), step { s with pending := c :: s.pending } = exec c s) ∧
  (∀ s : State, s.pending = [] → step s = .next s)

/-- RESET leaves every block at its reset values (R3, R9, R20, R36, R39, R46, R51, R71, R77, R84, R94, R115, R126, R136,
R157, R163, R184, R189, R193, R196), whatever the part was doing, and the pins as a part held in reset drives them. -/
def Obligations.ResetValues : Prop :=
  ∀ s : State, ∃ t, exec .reset s = .next t ∧ t.pending = s.pending ∧ t.phase = .inReset ∧
    t.line.view = .busy ∧ t.line.beacon.use = .empty ∧ t.line.status.use = .empty ∧ t.line.tx = .quiet ∧
    t.line.giveUps = 0 ∧ t.line.buildPending = false ∧ t.peers = [] ∧
    t.ltu.lt = 0#32 ∧ t.ltu.nextControl = 480#32 ∧ t.ltu.clock = .free ∧ t.ltu.correction = 0 ∧ t.ltu.fast = false ∧
    t.ltu.spacing = 0 ∧ t.ltu.near = 0 ∧ t.ltu.emptyCount = 0 ∧ t.ltu.lastM = 0#32 ∧
    t.ctl.state = .idle ∧ t.ctl.number = none ∧ t.ctl.startLt = none ∧ t.ctl.fadeEnd = none ∧ t.ctl.join = none ∧
    t.ctl.refusal = none ∧ runPermit t = false ∧ t.jets.causes = ⟨false, false, false, true⟩ ∧
    t.flash.queue = [] ∧ (∀ i : Fin 16, t.flash.slots[i] = .free) ∧ t.flash.cache = [] ∧ t.flash.description = none ∧
    t.flash.audio.on = false ∧ t.flash.cue.on = false ∧ t.flash.audio.depth = 2 ∧ t.flash.cue.depth = 2 ∧
    t.cues.entries = [] ∧ t.cues.nextArrival = 0 ∧
    (∀ j : Jet, t.ctx.jets[j] = Context.rest 0 0#32 ∧ t.ctx.lights[j] = Context.rest black 0#32) ∧
    t.ctx.gain = Context.rest 256 0#32 ∧
    (∀ j : Jet, runPin t j = false ∧ valvePin t j = false ∧ speedPin t j = 0) ∧ t.jets.k = 1000 ∧ t.jets.c = 1000 ∧
    (∀ j : Jet, t.lamp.slots[j] = black ∧ t.lamp.speeds[j] = 0) ∧ t.lamp.sending = none ∧ t.audio.run = 0 ∧
    t.audio.opening = none ∧ t.sensors.filtered = 0 ∧ t.sensors.levelLow = false ∧
    (∀ i : AnalogInput, t.sensors.inputs.get i = InputRecord.start) ∧
    t.locks.estopTrip = false ∧ t.locks.auxTrip = false ∧ (∀ j : Jet, t.locks.driveTrips[j] = false) ∧
    t.faults.sources = 0#20 ∧ t.faults.pumpMask = 0#12 ∧ (∀ n ∈ counterList t.counters, n = 0) ∧
    faultPin t = false ∧ statusLed t = false ∧ flashFloats t = true ∧
    (∀ n : Nat, driverEnable t n = false ∧ lampPin t n = true ∧ i2sLrck t n = false ∧ i2sSd t n = false) ∧
    ∀ b : Bool, i2sBclk t b = false

/-- The state after reset meets every invariant stated below. It takes in the values the model names at reset (log 2). -/
def Obligations.ResetMeetsInvariants : Prop :=
  ResetHeld State.reset ∧ LinePortHeld State.reset ∧ SilentHeld State.reset ∧ PeersHeld State.reset ∧
  LineTimeHeld State.reset ∧ FlashHeld State.reset ∧ StreamsHeld State.reset ∧ IdleHeld State.reset ∧
  CuesHeld State.reset ∧ PowerHeld State.reset ∧ StoppedHeld State.reset ∧ ParkHeld State.reset ∧
  LampHeld State.reset ∧ SafeHeld State.reset ∧ EstopHeld State.reset ∧ SensorsHeld State.reset ∧
  CountersHeld State.reset ∧ PumpMaskHeld State.reset ∧ OwnedHeld State.reset ∧ RequestsHeld State.reset ∧
  DelayHeld State.reset

/-- The start-up sequence. START_UP_SEQUENCE samples the straps as the station number and presents the CONFIG demand for
page 0, which is the only entry of the queue and is granted the free port, with slot 0 reserved and the 5 ms timer started
(R72 to R74, R77, R190 steps 1 and 2). The RETIREMENT of the CONFIG read ends it (R57, R75, R76, R136, R157, R174, R190,
R192): a block that passes is put in use, one that fails makes the default configuration the one in use and latches
CONFIG_DEFAULT; each pump is PARKED, or DISABLED where its jet is not enabled or the station is 0; w_f and the bins take
W_HIGH; the lamp transmitter is IDLE with its due mark set; the first beacon point lies 2^k + j ms on. The generator's seed
and the jitter j are free (log 3), and the page comes as an operand (log 10). -/
def Obligations.StartUpTakesConfiguration : Prop :=
  (∀ (straps : BitVec 5) (s : State), s.phase = .inReset → s.flash = State.reset.flash →
    ∃ t, exec (.startUpSequence straps) s = .next t ∧
      t = { s with phase := .startUp, station := straps.toNat, generator := t.generator, flash := t.flash } ∧
      t.flash =
        { s.flash with
          queue := [{ page := 0, purpose := .config, kind := .demand, stream := none, state := .loading,
                      discard := false, slot := 0 }]
          slots := s.flash.slots.set 0 (.reserved 0 none)
          portBusy := true
          timer := some 0 }) ∧
  ∀ (page : Vector Byte pageBytes) (v : Verdicts) (i : Fin 16) (s : State),
    s.phase = .startUp → s.ctl.state = .idle → s.flash.description = none →
    s.flash.queue = [{ page := 0, purpose := .config, kind := .demand, stream := none, state := .transfer,
                       discard := false, slot := i }] →
    s.flash.audio = StreamRecord.off → s.flash.cue = StreamRecord.off → s.flash.lookups = [] →
    s.flash.indexDemands = [] → s.flash.armDemand = none →
    ∃ t, exec (.retirement page v) s = .next t ∧ t.phase = .running ∧ t.station = s.station ∧
      (∀ c, takeConfiguration page.toList v = some c → t.config = c ∧ t.faults = s.faults) ∧
      (takeConfiguration page.toList v = none → t.config = defaultConfiguration ∧ isLatched .configDefault t = true) ∧
      (∀ j : Jet, t.jets.pumps[j] =
        Pump.start (if t.config.jets[j].enable = true ∧ s.station ≠ 0 then .parked else .disabled)) ∧
      t.dryStation = (s.station == 0 || t.config.jets.toList.all fun j => !j.enable) ∧
      t.jets.causes = ⟨false, false, false, true⟩ ∧ t.jets.k = 1000 ∧ t.jets.request = 0 ∧
      t.sensors.filtered = t.config.wHigh ∧ (∀ b : Fin 10, t.sensors.bins[b] = t.config.wHigh) ∧
      (t.config.warmUp ≠ 0 → t.sensors.warmUp = some (1000 * t.config.warmUp)) ∧
      t.lamp.due = true ∧ t.lamp.sending = none ∧ t.lamp.heldBack = false ∧ t.locks = s.locks ∧
      (∃ j, j < 8 ∧ t.ltu.beaconTimer = some (2 ^ t.config.beaconK + j)) ∧ t.ltu.lt = s.ltu.lt ∧
      t.flash.queue = [] ∧ t.flash.portBusy = false ∧ t.flash.slots[i] = .free

/-- The configuration check (R57, R134, R191, R200): a block passes exactly when sectors 0 and 1 are not FAILED, its CRC-16
over bytes 0 to 663 stands in bytes 664 and 665, and every field lies in its range, those of a disabled jet apart; and the
fields of the configuration put in use are the block's, each from the bytes of 12.3. -/
def Obligations.ConfigurationChecked : Prop :=
  ∀ (b : List Byte) (v : Verdicts),
    ((takeConfiguration b v).isSome = true ↔
      v.sector0 ≠ .failed ∧ v.sector1 ≠ .failed ∧ (crc16 (b.take 664)).toNat = field16 b 664 ∧
      byteAt b 0 ≤ 3 ∧ byteAt b 1 ≤ 7 ∧ byteAt b 2 ≤ 7 ∧ byteAt b 3 ≤ 7 ∧ 5 ≤ byteAt b 5 ∧ byteAt b 5 ≤ 8 ∧
      field16 b 12 < field16 b 14 ∧ field16 b 14 < field16 b 16 ∧ field16 b 16 ≤ 600 ∧
      field16 b 18 ≤ 1000 ∧ field16 b 20 ≤ 100 ∧ field16 b 18 + field16 b 20 ≤ 1000 ∧ field16 b 22 ≤ 1000 ∧
      1 ≤ field16 b 24 ∧ field16 b 24 ≤ 1000 ∧ 1000 ≤ field16 b 26 ∧ field16 b 26 ≤ 60000 ∧ field16 b 28 ≤ 60000 ∧
      byteAt b 30 ≤ 60 ∧ field16 b 32 ≤ 4800 ∧
      (∀ i, i < 12 → byteAt b (641 + 2 * i) = 255 ∨ byteAt b (641 + 2 * i) < 12) ∧
      ∀ j, j < 12 → bitAt b (64 + 48 * j) 0 = true →
        field16 b (66 + 48 * j) ≤ 4000 ∧ field32 b (68 + 48 * j) ≤ 200000 ∧
        1 ≤ field16 b (72 + 48 * j) ∧ field16 b (72 + 48 * j) ≤ 1000 ∧ field16 b (82 + 48 * j) = 0 ∧
        (∀ i, i < 8 → 1 ≤ field16 b (80 + 48 * j + 4 * i) ∧ field16 b (80 + 48 * j + 4 * i) ≤ 1000 ∧
          field16 b (82 + 48 * j + 4 * i) ≤ 4000) ∧
        ∀ i, i < 7 → field16 b (80 + 48 * j + 4 * i) < field16 b (84 + 48 * j + 4 * i) ∧
          field16 b (82 + 48 * j + 4 * i) ≤ field16 b (86 + 48 * j + 4 * i)) ∧
    ∀ c, takeConfiguration b v = some c →
      c.syncGroup = byteAt b 0 ∧ c.basinGroup = byteAt b 1 ∧ c.windGroup = byteAt b 2 ∧ c.feedGroup = byteAt b 3 ∧
      c.cueGroups = b.getD 4 0#8 ∧ c.beaconK = byteAt b 5 ∧ c.autoJoin = bitAt b 6 0 ∧ c.feedLimit = field32 b 8 ∧
      c.wLow = field16 b 12 ∧ c.wHigh = field16 b 14 ∧ c.wTrip = field16 b 16 ∧ c.lLow = field16 b 18 ∧
      c.lHyst = field16 b 20 ∧ c.pMin = field16 b 22 ∧ c.sPrime = field16 b 24 ∧ c.tPrime = field16 b 26 ∧
      c.runDown = field16 b 28 ∧ c.warmUp = byteAt b 30 ∧ c.safeLight = b.getD 31 0#8 ∧ c.audioDelay = field16 b 32 ∧
      (∀ n, n < 14 → c.activeHigh.getLsbD n = (field16 b 34).testBit n ∧ c.latching.getLsbD n = (field16 b 36).testBit n) ∧
      (∀ n, n < 20 → c.faultMask.getLsbD n = (field24 b 54).testBit n) ∧
      (∀ i : Fin 4, c.scaling[i].offset = (BitVec.ofNat 16 (field16 b (38 + 4 * i.val))).toInt ∧
        c.scaling[i].gain = field16 b (40 + 4 * i.val)) ∧
      (∀ j : Jet, c.jets[j].enable = bitAt b (64 + 48 * j.val) 0 ∧ c.jets[j].hMax = field16 b (66 + 48 * j.val) ∧
        c.jets[j].power = field32 b (68 + 48 * j.val) ∧ c.jets[j].accel = field16 b (72 + 48 * j.val) ∧
        ∀ i : Fin 8, c.jets[j].curve[i].speed = field16 b (80 + 48 * j.val + 4 * i.val) ∧
          c.jets[j].curve[i].height = field16 b (82 + 48 * j.val + 4 * i.val)) ∧
      ∀ i : Jet, c.lights[i].enable = bitAt b (640 + 2 * i.val) 0 ∧
        (c.lights[i].binding.map fun j => j.val) =
          if byteAt b (641 + 2 * i.val) < 12 then some (byteAt b (641 + 2 * i.val)) else none

/-- The pins (R1, R157, R161, R163): in an attempt SL_DE is asserted with SL_TX low for each 0 bit and released for each 1
bit, and outside an attempt it is released; LAMP_TX carries the lamp frame's bits and idles at 1; in bit clock n of a frame
I2S_LRCK is low for the left half and high for the right, and I2S_SD carries the sample from the second bit clock of its
half on, most significant bit first, then 15 zeros. SL_TX in a 1 bit, I2S_SD in a half's first bit clock and the order of
BCLK's halves are no part of it (log 39, log 40). After start-up FAULT is asserted exactly while a source of SAFETY or
HYDRAULIC is set and its mask bit is 1, and STATUS_LED is lit exactly while the clock is LOCKED and no source is set whose
mask bit is 1; before its end both are off (R194). -/
def Obligations.PinsFollowState : Prop :=
  (∀ (s : State) (slot : SlotId) (l : LineTime) (f : List Byte) (n : Nat), s.line.tx = .sending slot l f →
    ((frameBits f)[n]? = some false → driverEnable s n = true ∧ slTx s n = false) ∧
    ((frameBits f)[n]? = some true → driverEnable s n = false)) ∧
  (∀ (s : State) (n : Nat), isSending s.line.tx = false → driverEnable s n = false) ∧
  (∀ (s : State) (n : Nat), (s.lamp.sending = none → lampPin s n = true) ∧
    ∀ f b, s.lamp.sending = some f → (frameBits f)[n]? = some b → lampPin s n = b) ∧
  (∀ (s : State) (n : Nat), s.phase ≠ .inReset →
    (n < 32 → i2sLrck s n = false) ∧ (32 ≤ n → n < 64 → i2sLrck s n = true) ∧
    (1 ≤ n → n ≤ 16 → i2sSd s n = s.audio.left.getLsbD (16 - n) ∧ i2sSd s (32 + n) = s.audio.right.getLsbD (16 - n)) ∧
    (17 ≤ n → n ≤ 31 → i2sSd s n = false ∧ i2sSd s (32 + n) = false)) ∧
  ∀ s : State,
    let raised := fun f : FaultSource => isLatched f s = true ∧ s.config.faultMask.getLsbD (sourceNumber f) = true
    (faultPin s = true ↔ s.phase = .running ∧ ∃ f, (groupOf f = .safety ∨ groupOf f = .hydraulic) ∧ raised f) ∧
    (statusLed s = true ↔ s.phase = .running ∧ s.ltu.clock = .locked ∧ ∀ f, ¬raised f)

/-! ### The Show Line -/

/-- The receive side. LINE_BUSY (R3, R4, R12): the view is BUSY; a running count is abandoned, and neither the range of the
next draw nor a slot changes; the edge of a frame's first byte captures LT. BYTE_RECEIVED (R2, R4) ends a byte that an edge
has begun, and decodes its ten bits: with a start bit of 1 it is a glitch and no byte is begun; with a stop bit of 0 it is
broken, is counted and marks the frame; otherwise it is the byte b whose bit i is the data bit i places after the first, the
least significant coming first, and is counted, and stored if fewer than 102 are.
LINE_IDLE_DETECTION with no byte assembled judges nothing and counts nothing; the view turns IDLE and activity is assembled
from then on. A frame that waits starts its count of 24 + r bit times, r drawn below the range (R3, R4, R6, R12); with none
waiting the transmitter stays as it is. The draw is free (log 3). That a broken byte is counted is the model's reading (log
20); so is the clause that a glitch on a first byte takes the capture back (log 22). -/
def Obligations.LineIsReceived : Prop :=
  (∀ s : State, s.phase ≠ .inReset →
    ∃ t, exec .lineBusy s = .next t ∧ t = { s with line := { s.line with view := .busy, tx := t.line.tx, rx := t.line.rx } } ∧
      (isDeferring s.line.tx = true → t.line.tx = .quiet) ∧ (isDeferring s.line.tx = false → t.line.tx = s.line.tx) ∧
      t.line.rx.bytes = s.line.rx.bytes ∧ t.line.rx.count = s.line.rx.count ∧ t.line.rx.broken = s.line.rx.broken ∧
      (s.line.rx.assembling = true → t.line.rx.inByte = true) ∧
      (s.line.rx.assembling = true → s.line.rx.inByte = false → s.line.rx.count = 0 →
        t.line.rx.capture = some s.ltu.lt ∧ t.line.rx.correction = 0#32) ∧
      (s.line.rx.assembling = false ∨ s.line.rx.inByte = true ∨ s.line.rx.count ≠ 0 →
        t.line.rx.capture = s.line.rx.capture)) ∧
  (∀ (bits : Vector Bool 10) (s : State), s.phase ≠ .inReset → s.line.rx.assembling = true →
    s.line.rx.inByte = true →
    ∃ t, exec (.byteReceived bits) s = .next t ∧ t = { s with line := { s.line with rx := t.line.rx } } ∧
      t.line.rx.inByte = false ∧ t.line.rx.assembling = true ∧
      (bits[0] = true → t.line.rx.bytes = s.line.rx.bytes ∧ t.line.rx.count = s.line.rx.count ∧
        t.line.rx.broken = s.line.rx.broken ∧
        (s.line.rx.count = 0 → t.line.rx.capture = none) ∧ (s.line.rx.count ≠ 0 → t.line.rx.capture = s.line.rx.capture)) ∧
      (bits[0] = false → bits[9] = false → t.line.rx.bytes = s.line.rx.bytes ∧ t.line.rx.count = s.line.rx.count + 1 ∧
        t.line.rx.broken = true ∧ t.line.rx.capture = s.line.rx.capture) ∧
      (∀ b : Byte, bits[0] = false → bits[9] = true → (∀ i : Fin 8, b.getLsbD i.val = bits[i.val + 1]) →
        t.line.rx.count = s.line.rx.count + 1 ∧ t.line.rx.broken = s.line.rx.broken ∧
        t.line.rx.capture = s.line.rx.capture ∧
        t.line.rx.bytes = if s.line.rx.bytes.length < 102 then s.line.rx.bytes ++ [b] else s.line.rx.bytes)) ∧
  ∀ s : State, IdleComes s → s.line.rx.count = 0 →
    (chosenSlot s.line = none → exec .lineIdleDetection s = .next (afterIdle s)) ∧
    (chosenSlot s.line ≠ none → s.line.tx = .quiet → 0 < s.line.drawRange →
      ∃ t r, exec .lineIdleDetection s = .next t ∧ r < s.line.drawRange ∧
        t = { afterIdle s with generator := t.generator, line := { (afterIdle s).line with tx := .deferring (24 + r) } })

/-- Frames that are not dispatched. A frame that fails a check of R6 is discarded and counts in the counter of the first
check it fails, and does nothing else: integrity in RX_CRC, kind in RX_UNKNOWN, source or length in RX_FORMAT. The length is
that of the kind: BEACON 23, CUE 18, 34, 50, 66 or 82, SHOW 12, CLEAR 3, QUERY 1, STATUS 80. A valid frame that carries the
own station number latches DUP_STATION, no counter moves and nothing else changes, before the end of start-up as after it
(R7, R8). -/
def Obligations.BadFramesAreCounted : Prop :=
  (∀ s : State, IdleComes s → NothingWaits s → s.line.rx.count ≠ 0 →
    let b := s.line.rx.bytes
    let kind := byteAt b 1
    let source := byteAt b 2
    let length := byteAt b 3
    let unsound := byteAt b 0 ≠ 0xA5 ∨ s.line.rx.broken = true ∨ s.line.rx.count < 4 ∨ 102 < s.line.rx.count ∨
      s.line.rx.count ≠ 4 + length + 2 ∨ (crc16 ((b.drop 1).take (3 + length))).toNat ≠ field16 b (4 + length)
    let required := (kind = 1 ∧ length = 23) ∨
      (kind = 2 ∧ (length = 18 ∨ length = 34 ∨ length = 50 ∨ length = 66 ∨ length = 82)) ∨
      (kind = 3 ∧ length = 12) ∨ (kind = 4 ∧ length = 3) ∨ (kind = 5 ∧ length = 1) ∨ (kind = 6 ∧ length = 80)
    let counted := fun c : Counters => exec .lineIdleDetection s = .next { afterIdle s with counters := c }
    (unsound → counted { s.counters with rxCrc := bump s.counters.rxCrc }) ∧
    (¬unsound → kind = 0 ∨ 6 < kind → counted { s.counters with rxUnknown := bump s.counters.rxUnknown }) ∧
    (¬unsound → 1 ≤ kind → kind ≤ 6 → source = 0 ∨ 31 < source ∨ ¬required →
      counted { s.counters with rxFormat := bump s.counters.rxFormat }) ∧
    (¬unsound → 1 ≤ source → source ≤ 31 → required →
      judgeFrame s.line.rx = .valid kind source ((b.drop 4).take length))) ∧
  ∀ (kind : Nat) (payload : List Byte) (s : State), IdleComes s → NothingWaits s → s.line.rx.count ≠ 0 →
    judgeFrame s.line.rx = .valid kind s.station payload →
    ∃ t, exec .lineIdleDetection s = .next t ∧ t = { afterIdle s with faults := t.faults } ∧
      isLatched .dupStation t = true ∧ t.faults.pumpMask = s.faults.pumpMask ∧
      ∀ f : FaultSource, f ≠ .dupStation → isLatched f t = isLatched f s

/-- DEFERRAL_EXPIRY (R13): the BEACON slot's frame is sent if that slot is WAITING, otherwise the STATUS slot's; with
neither WAITING no attempt starts and the transmitter is QUIET. The choice is made from the slots as they stand when the
count runs out, so a STATUS frame passed over stays WAITING. LT is latched at the start, and a beacon carries it (R14). The
attempt holds the line BUSY, nothing of it is assembled (R4), and the next draw is an ordinary one, of 32 values (R12). A
frame is the start mark A5h, kind, station and payload length, the payload, and the CRC-16 over header and payload, most
significant byte first (1.2, R5). -/
def Obligations.ExpiryPicksBeaconFirst : Prop :=
  (∀ (s : State) (w : Nat), s.line.tx = .deferring w →
    ∃ t, exec .deferralExpiry s = .next t ∧
      (s.line.beacon.use = .waiting →
        t = { s with line := { s.line with
                view := .busy, rx := Receiver.cleared false, drawRange := 32
                beacon := { s.line.beacon with use := .sending }
                tx := .sending .beacon s.ltu.lt
                  (frameBytes 1 s.station (bytes32 s.ltu.lt.toNat ++ s.line.beacon.payload.drop 4)) } }) ∧
      (s.line.beacon.use ≠ .waiting → s.line.status.use = .waiting →
        t = { s with line := { s.line with
                view := .busy, rx := Receiver.cleared false, drawRange := 32
                status := { s.line.status with use := .sending }
                tx := .sending .status s.ltu.lt (frameBytes 6 s.station s.line.status.payload) } }) ∧
      (s.line.beacon.use ≠ .waiting → s.line.status.use ≠ .waiting →
        t = { s with line := { s.line with tx := .quiet } })) ∧
  ∀ (kind station : Nat) (payload : List Byte), kind < 256 → station < 256 → payload.length < 256 →
    let f := frameBytes kind station payload
    f.length = payload.length + 6 ∧ byteAt f 0 = 0xA5 ∧ byteAt f 1 = kind ∧ byteAt f 2 = station ∧
    byteAt f 3 = payload.length ∧ (f.drop 4).take payload.length = payload ∧
    field16 f (4 + payload.length) = (crc16 ((f.drop 1).take (3 + payload.length))).toNat

/-- How an attempt ends. ATTEMPT_SUCCEEDED (R4, R9, R10, R14, R17): the slot is EMPTY and its count cleared, the other slot is
unchanged, the transmitter waits and activity is assembled again; a beacon sent sets the give-up count to 0 and the mark; a
beacon pending behind it is built from the state of that moment and placed with a = 0. ATTEMPT_FAILED (R15, R16, R17) at a
bit sent as 1: TX_COLLISION counts. Below the eighth failure the frame stays WAITING with a one higher, or a beacon pending
behind it replaces it with a = 0 and TX_REPLACED counts (R10); r will be drawn from 32 × 2^min(a, 4) values. The eighth gives
it up: the slot is EMPTY, or takes the pending beacon, TX_GIVEUP counts, the next draw is ordinary, and a beacon given up
counts, the fourth in a row and each one after it latching TX_FAIL and clearing the mark. That a beacon pending behind a failed
one is built after what R17 notes, and is drawn for in the failed attempt's range, is the model's reading (log 21). -/
def Obligations.AttemptsEnd : Prop :=
  (∀ (s : State) (slot : SlotId) (l : LineTime) (f : List Byte), s.line.tx = .sending slot l f → s.station ≠ 0 →
    slot = .beacon ∨ s.line.buildPending = false →
    ∃ t, exec .attemptSucceeded s = .next t ∧
      t = { s with line := { s.line with
              beacon := t.line.beacon, status := t.line.status, tx := .quiet, rx := Receiver.cleared true,
              buildPending := t.line.buildPending, giveUps := t.line.giveUps,
              sentSinceTxFail := t.line.sentSinceTxFail } } ∧
      (slot = .beacon → t.line.giveUps = 0 ∧ t.line.sentSinceTxFail = true ∧ t.line.status = s.line.status ∧
        t.line.buildPending = false ∧
        t.line.beacon = if s.line.buildPending then waitingSlot (beaconPayload s) else TxSlot.emptySlot) ∧
      (slot = .status →
        t.line.giveUps = s.line.giveUps ∧ t.line.sentSinceTxFail = s.line.sentSinceTxFail ∧
        t.line.status = TxSlot.emptySlot ∧ t.line.beacon = s.line.beacon ∧ t.line.buildPending = false)) ∧
  ∀ (s : State) (slot : SlotId) (l : LineTime) (f : List Byte) (bit : Nat), s.line.tx = .sending slot l f →
    (frameBits f)[bit]? = some true → s.station ≠ 0 → slot = .beacon ∨ s.line.buildPending = false →
    ∃ t, exec (.attemptFailed bit) s = .next t ∧
      t = { s with line := { s.line with
                     beacon := t.line.beacon, status := t.line.status, tx := .quiet, drawRange := t.line.drawRange,
                     buildPending := false, giveUps := t.line.giveUps, sentSinceTxFail := t.line.sentSinceTxFail },
                   counters := t.counters, faults := t.faults } ∧
      (∀ x, x ≠ slot → slotAt x t.line = slotAt x s.line) ∧
      ((slotAt slot s.line).attempts < 7 →
        (s.line.buildPending = false → slotAt slot t.line =
          { slotAt slot s.line with use := .waiting, attempts := (slotAt slot s.line).attempts + 1 }) ∧
        (s.line.buildPending = true → slotAt slot t.line = waitingSlot (beaconPayload s)) ∧
        t.line.drawRange = 32 * 2 ^ min ((slotAt slot s.line).attempts + 1) 4 ∧
        t.line.giveUps = s.line.giveUps ∧ t.line.sentSinceTxFail = s.line.sentSinceTxFail ∧ t.faults = s.faults ∧
        t.counters = { s.counters with
          txCollision := bump s.counters.txCollision
          txReplaced := if s.line.buildPending then bump s.counters.txReplaced else s.counters.txReplaced }) ∧
      ((slotAt slot s.line).attempts = 7 →
        slotAt slot t.line = (if s.line.buildPending then waitingSlot (beaconPayload t) else TxSlot.emptySlot) ∧
        t.line.drawRange = 32 ∧
        t.counters = { s.counters with txCollision := bump s.counters.txCollision, txGiveUp := bump s.counters.txGiveUp } ∧
        (slot = .status → t.line.giveUps = s.line.giveUps ∧ t.faults = s.faults) ∧
        (slot = .beacon → s.line.giveUps < 3 →
          t.line.giveUps = s.line.giveUps + 1 ∧ t.line.sentSinceTxFail = s.line.sentSinceTxFail ∧ t.faults = s.faults) ∧
        (slot = .beacon → 3 ≤ s.line.giveUps →
          t.line.giveUps = 4 ∧ t.line.sentSinceTxFail = false ∧ isLatched .txFail t = true))

/-! ### Frames taken -/

/-- A valid BEACON creates or overwrites its sender's record, with age 0, sample_new set and the offset of R24 and R25;
the record stands in station order, every other record is as it was, and nothing else changes (R20, R21, R23). A new
station's beacon at a table of 30 records replaces the record with the greatest age, of several the one with the lowest
station number, and PEER_OVERFLOW counts (R22). -/
def Obligations.BeaconWritesRecord : Prop :=
  ∀ (source : Nat) (payload : List Byte) (captured : LineTime) (s : State),
    FrameEnds 1 source payload s → NothingWaits s → s.line.rx.capture = some captured → PeersHeld s →
    let room := s.peers.length < 30 ∨ (∃ q ∈ s.peers, q.station = source)
    ∃ t p, exec .lineIdleDetection s = .next t ∧ t = { afterIdle s with peers := t.peers, counters := t.counters } ∧
      PeersHeld t ∧ p ∈ t.peers ∧ p.station = source ∧ p.age = 0 ∧ p.sampleNew = true ∧
      p.offset = BitVec.ofNat 32 (field32 payload 0) - captured - s.line.rx.correction ∧
      p.request = field32 payload 11 ∧ p.windHeld = min (field16 payload 15) 600 ∧ p.levelLow = bitAt payload 17 0 ∧
      p.showNumber = (if byteAt payload 4 < 16 then some (byteAt payload 4) else none) ∧
      p.showState = showOfCode (byteAt payload 5) ∧ p.clockState = clockOfCode (byteAt payload 10) ∧
      p.startLt = BitVec.ofNat 32 (field32 payload 6) ∧
      p.syncGroup = byteAt payload 19 ∧ p.basinGroup = byteAt payload 20 ∧ p.windGroup = byteAt payload 21 ∧
      p.feedGroup = byteAt payload 22 ∧ (∀ q ∈ t.peers, q.station = source → q = p) ∧
      (room → t.counters = s.counters ∧ ∀ q, q.station ≠ source → (q ∈ t.peers ↔ q ∈ s.peers)) ∧
      (¬room → t.counters = { s.counters with peerOverflow := bump s.counters.peerOverflow } ∧
        ∃ old ∈ s.peers, (∀ q ∈ s.peers, q.age < old.age ∨ (q.age = old.age ∧ old.station ≤ q.station)) ∧
          ∀ q, q.station ≠ source → (q ∈ t.peers ↔ q ∈ s.peers ∧ q ≠ old))

/-- A SHOW frame or a CUE frame that the show state refuses does one thing: REFUSED counts and the refusal record holds
the operation and the state; one whose group mask meets no configured cue group does nothing (R96, R97, R98, R101,
R114, R120). -/
def Obligations.RefusalsAreRecorded : Prop :=
  ∀ (source : Nat) (payload : List Byte) (s : State), NothingWaits s →
    let refused := fun op : RefusedOp => { afterIdle s with
      counters := { s.counters with refused := bump s.counters.refused }
      ctl := { s.ctl with refusal := some (op, s.ctl.state) } }
    (FrameEnds 3 source payload s → payload.getD 2 0#8 &&& s.config.cueGroups = 0#8 →
      exec .lineIdleDetection s = .next (afterIdle s)) ∧
    (FrameEnds 2 source payload s → payload.getD 0 0#8 &&& s.config.cueGroups = 0#8 →
      exec .lineIdleDetection s = .next (afterIdle s)) ∧
    (FrameEnds 3 source payload s → payload.getD 2 0#8 &&& s.config.cueGroups ≠ 0#8 →
      (byteAt payload 0 = 1 →
        15 < byteAt payload 1 ∨ s.ctl.state = .arming ∨ s.ctl.state = .running ∨ s.ctl.state = .ending ∨
          s.ctl.state = .safe →
        exec .lineIdleDetection s = .next (refused .arm)) ∧
      (byteAt payload 0 = 2 →
        s.ctl.state = .idle ∨ s.ctl.state = .running ∨ s.ctl.state = .ending ∨ s.ctl.state = .safe ∨
          s.ctl.number ≠ some (byteAt payload 1) →
        exec .lineIdleDetection s = .next (refused .start)) ∧
      (byteAt payload 0 = 3 → s.ctl.state = .idle ∨ s.ctl.state = .safe →
        exec .lineIdleDetection s = .next (refused .stop)) ∧
      (byteAt payload 0 = 0 ∨ 3 < byteAt payload 0 → exec .lineIdleDetection s = .next (refused .other))) ∧
    (FrameEnds 2 source payload s → payload.getD 0 0#8 &&& s.config.cueGroups ≠ 0#8 →
      s.ctl.state = .idle ∨ s.ctl.state = .arming ∨ s.ctl.state = .ending ∨ s.ctl.state = .safe →
      exec .lineIdleDetection s = .next (refused .cue))

/-- A CUE frame taken in ARMED or RUNNING (R118, R120, R121): its one to five records are taken one after another in frame
order. A record of unknown kind counts in CUE_MALFORMED; a due more than 48,000 counts past counts in CUE_STALE; a full queue
counts in CUE_REJECT; otherwise the cue joins the queue as LIVE, a due of 0 becoming the present LT, before the first entry
whose due is after its own, and no entry is lost. Its kind is that of the kind byte's low 4 bits: 1 JET with a height taken as
4,000 if above, 2 LIGHT with three component bytes, 3 GAIN with a gain taken as 256 if above, 4 RELEASE, 5 END. The assembler
holds the bytes it counted, which LineAndTableInvariant says of every state (R4). -/
def Obligations.LiveCuesTaken : Prop :=
  (∀ (source : Nat) (payload : List Byte) (s : State), NothingWaits s → FrameEnds 2 source payload s → ReceiverHeld s →
    payload.getD 0 0#8 &&& s.config.cueGroups ≠ 0#8 → s.ctl.state = .armed ∨ s.ctl.state = .running →
    ∃ n, 1 ≤ n ∧ n ≤ 5 ∧ payload.length = 2 + 16 * n ∧
      exec .lineIdleDetection s =
        .next ((List.range n).foldl (fun u k => takeLiveRecord u ((payload.drop (2 + 16 * k)).take 16)) (afterIdle s))) ∧
  ∀ (u : State) (record : List Byte),
    let due := if field32 record 0 = 0 then u.ltu.lt else BitVec.ofNat 32 (field32 record 0)
    (byteAt record 4 % 16 = 0 ∨ 5 < byteAt record 4 % 16 →
      decodeKind record = none ∧
      takeLiveRecord u record = { u with counters := { u.counters with cueMalformed := bump u.counters.cueMalformed } }) ∧
    (1 ≤ byteAt record 4 % 16 → byteAt record 4 % 16 ≤ 5 → 48000 < ltDiff u.ltu.lt due →
      takeLiveRecord u record = { u with counters := { u.counters with cueStale := bump u.counters.cueStale } }) ∧
    (1 ≤ byteAt record 4 % 16 → byteAt record 4 % 16 ≤ 5 → ltDiff u.ltu.lt due ≤ 48000 → 48 ≤ u.cues.entries.length →
      takeLiveRecord u record = { u with counters := { u.counters with cueReject := bump u.counters.cueReject } }) ∧
    (1 ≤ byteAt record 4 % 16 → byteAt record 4 % 16 ≤ 5 → ltDiff u.ltu.lt due ≤ 48000 → u.cues.entries.length < 48 →
      ∃ e before after,
        takeLiveRecord u record =
          { u with cues := { entries := before ++ e :: after, nextArrival := u.cues.nextArrival + 1 } } ∧
        u.cues.entries = before ++ after ∧ e.source = .live ∧ e.due = due ∧ e.arrival = u.cues.nextArrival ∧
        e.ramp = min (field16 record 8) 6000 ∧ e.mask = BitVec.ofNat 12 (field16 record 5) ∧
        decodeKind record = some e.kind ∧
        (byteAt record 4 % 16 = 1 → e.kind = .jet (min (field16 record 10) 4000)) ∧
        (byteAt record 4 % 16 = 2 → e.kind = .light ⟨byteAt record 10, byteAt record 11, byteAt record 12⟩) ∧
        (byteAt record 4 % 16 = 3 → e.kind = .gain (min (field16 record 10) 256)) ∧
        (byteAt record 4 % 16 = 4 → e.kind = .release) ∧ (byteAt record 4 % 16 = 5 → e.kind = .ending) ∧
        (∀ q ∈ before, isAfter q.due due = false) ∧ ∀ q rest, after = q :: rest → isAfter q.due due = true)

/-- An ARM for a show number 0 to 15 (R97, R102, R103). In IDLE it enters ARMING: the number recorded, the start LT invalid,
step 1, END cleared, the cache emptied, every context at rest, and page 1 read; here the flash has no read in hand. In ARMED
for the show in hand it changes nothing, and a pending start is kept. In ARMED for another show the show in hand is torn down
and ARMING entered for the other in one event: its number, no start LT, step 1, END clear, no cue, no description, the cache
empty, the streams OFF, every context at rest, and page 1 demanded, here no page of the queue or of a slot and with a place
in the queue once the streams' WAITING reads are gone; entries and slots belong to the streams they should, which
RequestInvariant says of every state. That its PRIMING and RUNNING pumps are parked by the END the teardown sets is the
model's reading (log 28). -/
def Obligations.ArmEntersArming : Prop :=
  ∀ (source : Nat) (payload : List Byte) (s : State), NothingWaits s → FrameEnds 3 source payload s →
    payload.getD 2 0#8 &&& s.config.cueGroups ≠ 0#8 → byteAt payload 0 = 1 → byteAt payload 1 ≤ 15 →
    (s.ctl.state = .armed → s.ctl.number = some (byteAt payload 1) → s.flash.slotFreed = false → s.flash.heldNow = [] →
      exec .lineIdleDetection s = .next (afterIdle s)) ∧
    (s.ctl.state = .armed → s.ctl.number ≠ some (byteAt payload 1) → FlashHeld s → OwnedHeld s →
      (s.flash.queue.filter fun e => e.stream == none || e.state != .waiting).length < 8 →
      (∀ e ∈ s.flash.queue, e.page ≠ 1) → (∀ i : Fin 16, (s.flash.slots[i]).isFilled 1 = false) →
      ∃ t, exec .lineIdleDetection s = .next t ∧
        t = { afterIdle s with ctl := t.ctl, flash := t.flash, cues := { s.cues with entries := [] }, audio := t.audio,
                               ctx := restContexts s.ltu.lt, jets := t.jets, lamp := t.lamp, sensors := t.sensors } ∧
        t.ctl = { s.ctl with state := .arming, number := some (byteAt payload 1), startLt := none, fadeEnd := none,
                             armStep := 1 } ∧
        t.jets.causes = { s.jets.causes with ending := false } ∧ t.jets.primeReady = none ∧
        (∀ j : Jet, t.jets.pumps[j].state ≠ .priming ∧ t.jets.pumps[j].state ≠ .running ∧
          (s.jets.pumps[j].state ≠ .priming → s.jets.pumps[j].state ≠ .running → t.jets.pumps[j] = s.jets.pumps[j])) ∧
        t.flash.audio = StreamRecord.off ∧ t.flash.cue = StreamRecord.off ∧ t.flash.description = none ∧
        t.flash.cache = [] ∧ t.flash.failMarks = [] ∧ t.flash.lookups = [] ∧
        (∃ e ∈ t.flash.queue, e.page = 1 ∧ e.purpose = .directory ∧ e.kind = .demand ∧ e.discard = false) ∧
        ∀ e ∈ t.flash.queue, e.page ≠ 1 → e.discard = true) ∧
    (s.ctl.state = .idle → NoShow s → s.flash.queue = [] → s.flash.portBusy = false →
      (∀ i : Fin 16, s.flash.slots[i] = .free) →
      ∃ t, exec .lineIdleDetection s = .next t ∧
        t = { afterIdle s with ctl := t.ctl, flash := t.flash, ctx := restContexts s.ltu.lt, jets := t.jets } ∧
        t.ctl = { s.ctl with state := .arming, number := some (byteAt payload 1), startLt := none, armStep := 1 } ∧
        t.jets = { s.jets with causes := { s.jets.causes with ending := false }, primeReady := none } ∧
        t.flash.queue = [{ page := 1, purpose := .directory, kind := .demand, stream := none, state := .loading,
                           discard := false, slot := 0 }] ∧
        t.flash.slots = s.flash.slots.set 0 (.reserved 1 none) ∧ t.flash.portBusy = true ∧ t.flash.timer = some 0 ∧
        t.flash.cache = [] ∧ t.flash.failMarks = [] ∧ t.flash.lookups = [] ∧ t.flash.audio.on = false ∧
        t.flash.cue.on = false)

/-- A STOP frame, an end request with the frame's fade, at most 6,000, by the show state (R96, R100, R101, R109). In RUNNING
ENDING is entered: the fade end, the CUE stream OFF, the queue empty, and every context ramping from its active value to 0
with no LIVE layer; the pumps and the park causes stay; here no index page is awaited. In ENDING before the fade end an
earlier fade end is taken and every context ramped again, and a later one changes nothing; once the fade end is reached a STOP
changes nothing. In ARMING and ARMED teardown follows and the state is IDLE, with no fault latched and no pump driven; the
refusal and join records stay; there an entry belongs to the stream of its purpose, as RequestInvariant says. When the fade
end counts as reached is the model's choice (log 36). -/
def Obligations.StopEntersEnding : Prop :=
  ∀ (source : Nat) (payload : List Byte) (s : State), NothingWaits s → FrameEnds 3 source payload s →
    payload.getD 2 0#8 &&& s.config.cueGroups ≠ 0#8 → byteAt payload 0 = 3 →
    let fadeEnd := s.ltu.lt + BitVec.ofNat 32 (480 * min (field16 payload 7) 6000)
    let fadedTo := fun t : State =>
      (∀ j : Jet, t.ctx.jets[j] =
        { track := { v0 := natContextAt s.ltu.lt s.ctx.jets[j], v1 := 0, t0 := s.ltu.lt, t1 := fadeEnd }, live := none }) ∧
      (∀ j : Jet, t.ctx.lights[j] =
        { track := { v0 := rgbContextAt s.ltu.lt s.ctx.lights[j], v1 := black, t0 := s.ltu.lt, t1 := fadeEnd },
          live := none }) ∧
      t.ctx.gain =
        { track := { v0 := natContextAt s.ltu.lt s.ctx.gain, v1 := 0, t0 := s.ltu.lt, t1 := fadeEnd }, live := none }
    (s.ctl.state = .running → s.flash.lookups = [] → s.flash.indexDemands = [] → s.flash.armDemand = none →
      ∃ t, exec .lineIdleDetection s = .next t ∧ t.ctl = { s.ctl with state := .ending, fadeEnd := some fadeEnd } ∧
        t.cues.entries = [] ∧ t.flash.cue.on = false ∧ fadedTo t ∧ runPermit t = false ∧
        t.jets = { s.jets with primeReady := none } ∧ t.ltu = s.ltu ∧ t.peers = s.peers ∧ t.locks = s.locks ∧
        t.config = s.config ∧ t.lamp = s.lamp) ∧
    (∀ e, s.ctl.state = .ending → s.ctl.fadeEnd = some e → s.flash.slotFreed = false → s.flash.heldNow = [] →
      let reached := 0 ≤ ltDiff s.ltu.lt e ∨ s.jets.causes.ending = true
      (reached ∨ ltDiff e fadeEnd ≤ 0 → exec .lineIdleDetection s = .next (afterIdle s)) ∧
      (¬reached → 0 < ltDiff e fadeEnd →
        ∃ t, exec .lineIdleDetection s = .next t ∧ fadedTo t ∧
          t = { afterIdle s with ctl := { s.ctl with fadeEnd := some fadeEnd }, ctx := t.ctx })) ∧
    (s.ctl.state = .arming ∨ s.ctl.state = .armed → s.flash.slotFreed = false → s.flash.heldNow = [] → OwnedHeld s →
      ∃ t, exec .lineIdleDetection s = .next t ∧ NoShow t ∧ t.ctx = restContexts s.ltu.lt ∧ runPermit t = false ∧
        t.ctl = { s.ctl with state := .idle, number := none, startLt := none, fadeEnd := none } ∧
        t.jets.causes = { s.jets.causes with ending := true } ∧
        (∀ j : Jet, t.jets.pumps[j].state ≠ .priming ∧ t.jets.pumps[j].state ≠ .running) ∧
        t.flash.cache = [] ∧ (∀ e ∈ t.flash.queue, e.stream = none → e.purpose ≠ .config → e.discard = true) ∧
        t.faults = s.faults ∧ t.counters = s.counters ∧ t.ltu = s.ltu ∧ t.peers = s.peers ∧ t.locks = s.locks)

/-- A CLEAR that acts (R193, R195 steps 1, 2 and 5): every source of a group that is not named is left as it is, and one of a
named group is cleared unless its standing condition of R193's table holds: a trip that is left, the mask of DRIVE_FAULT
not empty, LEVEL_LOW set, an input FAILED, the WIND cause, the run count at 4,800, no beacon sent since TX_FAIL, and
CONFIG_DEFAULT always. The counters flag sets every counter to 0 and the refusal record to none; without it neither
changes. Line time, peers, the flash engine, the cue queue and the contexts are untouched. -/
def Obligations.ClearActsOnSources : Prop :=
  ∀ (source : Nat) (payload : List Byte) (s : State), NothingWaits s → FrameEnds 4 source payload s →
    byteAt payload 0 = 0 ∨ byteAt payload 0 = s.station →
    let failed := fun i : AnalogInput => decide ((s.sensors.inputs.get i).health = .failed)
    ∃ t, exec .lineIdleDetection s = .next t ∧
      (∀ f : FaultSource,
        let group := match f with
          | .estop | .aux => 0
          | .dryA | .dryB | .driveFault | .levelLowSeen | .pressSensor | .levelSensor => 1
          | .windTrip | .windSensor => 2
          | .armFail | .indexFail | .flashTimeout | .eccFail | .pageId | .audioUnderrun | .cueLost => 3
          | .dupStation | .txFail | .configDefault => 4
        let stands := match f with
          | .estop => t.locks.estopTrip
          | .aux => t.locks.auxTrip
          | .driveFault => decide (t.faults.pumpMask ≠ 0#12)
          | .levelLowSeen => s.sensors.levelLow
          | .pressSensor => failed .pressA || failed .pressB
          | .levelSensor => failed .level
          | .windSensor => failed .wind
          | .windTrip => s.jets.causes.wind
          | .audioUnderrun => decide (s.audio.run = 4800)
          | .txFail => !s.line.sentSinceTxFail
          | .configDefault => true
          | _ => false
        isLatched f t = (isLatched f s && (!((payload.getD 1 0#8).getLsbD group) || stands))) ∧
      (bitAt payload 2 0 = true → t.counters = Counters.zero ∧ t.ctl.refusal = none) ∧
      (bitAt payload 2 0 = false → t.counters = s.counters ∧ t.ctl.refusal = s.ctl.refusal) ∧
      t.ltu = s.ltu ∧ t.peers = s.peers ∧ t.flash = s.flash ∧ t.cues = s.cues ∧ t.ctx = s.ctx ∧ t.config = s.config

/-- What a CLEAR that acts does to trips and pumps (R150, R154, R185 to R187, R195 steps 1, 2 and 4). Naming SAFETY, it ends
the ESTOP trip and a latching AUX trip whose inputs are RELEASED, and the AUX cause goes with its trip; naming HYDRAULIC, it
ends the latching drive trips whose inputs are RELEASED, takes from the mask each bit whose trip is gone, and releases each
FAULTED pump whose cause DRIVE is absent or has lost its trip: PARKED, or PRIMING where it may prime. A pump whose trip
stands stays FAULTED without its cause DRY, and one not FAULTED is left, unless the AUX cause goes and jet 0 may prime. -/
def Obligations.ClearEndsTrips : Prop :=
  ∀ (source : Nat) (payload : List Byte) (s : State), NothingWaits s → FrameEnds 4 source payload s →
    byteAt payload 0 = 0 ∨ byteAt payload 0 = s.station →
    let safety := (payload.getD 1 0#8).getLsbD 0
    let hydraulic := (payload.getD 1 0#8).getLsbD 1
    ∃ t, exec .lineIdleDetection s = .next t ∧
      t.locks = { s.locks with
        estopTrip := s.locks.estopTrip && !(safety && !s.locks.estop)
        auxTrip := s.locks.auxTrip && !(safety && s.config.latching.getLsbD 1 && !s.locks.aux)
        driveTrips := t.locks.driveTrips } ∧
      (∀ j : Jet, t.locks.driveTrips[j] =
        (s.locks.driveTrips[j] && !(hydraulic && s.config.latching.getLsbD (2 + j.val) && !s.locks.drive[j]))) ∧
      (∀ j : Jet, t.faults.pumpMask.getLsbD j.val =
        (s.faults.pumpMask.getLsbD j.val && (!hydraulic || t.locks.driveTrips[j]))) ∧
      t.jets.causes = { s.jets.causes with
        aux := s.jets.causes.aux && (!s.locks.auxTrip || t.locks.auxTrip) } ∧
      ∀ j : Jet,
        (hydraulic = false → s.jets.pumps[j].state = .faulted → t.jets.pumps[j] = s.jets.pumps[j]) ∧
        (hydraulic = true → s.jets.pumps[j].state = .faulted → s.jets.pumps[j].drive = true →
          t.locks.driveTrips[j] = true → t.jets.pumps[j] = { s.jets.pumps[j] with dry := false }) ∧
        (hydraulic = true → s.jets.pumps[j].state = .faulted →
          s.jets.pumps[j].drive = false ∨ t.locks.driveTrips[j] = false →
          t.jets.pumps[j] = Pump.start
            (if runPermit t = true ∧ noCause t = true ∧ timerShows (500 * j.val) t.jets.primeReady = true then .priming
             else .parked) ∧
          t.lamp.speeds[j] = 0) ∧
        (s.jets.pumps[j].state ≠ .faulted → j ≠ 0 ∨ t.locks.auxTrip = s.locks.auxTrip →
          t.jets.pumps[j] = s.jets.pumps[j])

/-- SAFE and CLEAR (R114, R185, R195): a CLEAR naming SAFETY that finds ESTOP RELEASED clears the trip and the ESTOP
source, and the state is IDLE with an empty join record; one that finds it ASSERTED, and one that does not name SAFETY
while the trip stands, leave the trip, the source and SAFE as they are. -/
def Obligations.ClearLeavesSafe : Prop :=
  ∀ (source : Nat) (payload : List Byte) (s : State), NothingWaits s → FrameEnds 4 source payload s →
    byteAt payload 0 = 0 ∨ byteAt payload 0 = s.station → s.ctl.state = .safe → s.locks.estopTrip = true →
    ∃ t, exec .lineIdleDetection s = .next t ∧ t.ltu = s.ltu ∧ t.peers = s.peers ∧
      ((payload.getD 1 0#8).getLsbD 0 = true → s.locks.estop = false →
        t.ctl.state = .idle ∧ t.ctl.join = none ∧ t.locks.estopTrip = false ∧ isLatched .estop t = false) ∧
      ((payload.getD 1 0#8).getLsbD 0 = false ∨ s.locks.estop = true →
        t.ctl.state = .safe ∧ t.ctl.join = s.ctl.join ∧ t.locks.estopTrip = true ∧
        isLatched .estop t = isLatched .estop s)

/-- A QUERY that names the own station, with the STATUS slot EMPTY, puts an 80-byte STATUS built now in it, WAITING
with a = 0, and its count starts; a QUERY for another station has no effect (R11, R12, R18, R197). The draw is free
(log 3). -/
def Obligations.QueryBuildsStatus : Prop :=
  ∀ (source : Nat) (payload : List Byte) (s : State), NothingWaits s → FrameEnds 5 source payload s →
    (byteAt payload 0 ≠ s.station → exec .lineIdleDetection s = .next (afterIdle s)) ∧
    (byteAt payload 0 = s.station → s.station ≠ 0 → s.line.status.use = .empty → s.line.tx = .quiet →
      0 < s.line.drawRange →
      ∃ t r, exec .lineIdleDetection s = .next t ∧ r < s.line.drawRange ∧ (statusPayload s).length = 80 ∧
        t = { afterIdle s with generator := t.generator,
                               line := { (afterIdle s).line with
                                           status := waitingSlot (statusPayload s), tx := .deferring (24 + r) } })

/-- The payloads of the frames the part sends (12.2, R95, R194, R197, R198): each field of a BEACON built now, the LT field
left to the start mark, with its flags and its group bits, a group bit being true while a source of the group is set and
its mask bit is 1; and each field of a STATUS built now, in the places and the codes of 12.1 and 12.2, a field that outgrows
its bytes being sent modulo its width (which the ranges of R191 and R196 rule out). -/
def Obligations.PayloadLayouts : Prop :=
  ∀ s : State,
    let b := beaconPayload s
    let u := statusPayload s
    let showCodes := match s.ctl.state with
      | .idle => 0
      | .arming => 1
      | .armed => 2
      | .running => 3
      | .ending => 4
      | .safe => 5
    let clockCodes := match s.ltu.clock with
      | .free => 0
      | .acquiring => 1
      | .locked => 2
    let pumpCodes := fun j : Jet => match s.jets.pumps[j].state with
      | .disabled => 0
      | .parked => 1
      | .priming => 2
      | .running => 3
      | .parking => 4
      | .faulted => 5
    let groupTrue := fun sources : List Nat =>
      sources.any fun n => s.faults.sources.getLsbD n && s.config.faultMask.getLsbD n
    (b.length = 23 ∧ byteAt b 4 = s.ctl.number.getD 255 % 256 ∧ byteAt b 5 = showCodes ∧
      (s.ctl.startLt = none → field32 b 6 = 0) ∧ (∀ start, s.ctl.startLt = some start → field32 b 6 = start.toNat) ∧
      byteAt b 10 = clockCodes ∧ field32 b 11 = s.jets.request % 2 ^ 32 ∧ field16 b 15 = heldWind s % 2 ^ 16 ∧
      byteAt b 17 < 16 ∧ bitAt b 17 0 = s.sensors.levelLow ∧ bitAt b 17 1 = (s.ctl.state == .safe) ∧
      bitAt b 17 2 = s.dryStation ∧ bitAt b 17 3 = s.faults.sources.getLsbD 19 ∧
      byteAt b 18 < 32 ∧ bitAt b 18 0 = groupTrue [0, 1] ∧ bitAt b 18 1 = groupTrue [2, 3, 4, 5, 6, 7] ∧
      bitAt b 18 2 = groupTrue [8, 9] ∧ bitAt b 18 3 = groupTrue [10, 11, 12, 13, 14, 15, 16] ∧
      bitAt b 18 4 = groupTrue [17, 18, 19] ∧ byteAt b 19 = s.config.syncGroup % 256 ∧
      byteAt b 20 = s.config.basinGroup % 256 ∧ byteAt b 21 = s.config.windGroup % 256 ∧
      byteAt b 22 = s.config.feedGroup % 256) ∧
    u.length = 80 ∧ field24 u 0 = s.faults.sources.toNat ∧ field16 u 3 = s.faults.pumpMask.toNat ∧
    byteAt u 5 = showCodes ∧ byteAt u 6 = s.ctl.number.getD 255 % 256 ∧
    (s.ctl.state ≠ .running → s.ctl.state ≠ .ending → field32 u 7 = 0) ∧
    (∀ start, s.ctl.state = .running ∨ s.ctl.state = .ending → s.ctl.startLt = some start →
      field32 u 7 = (s.ltu.lt - start).toNat) ∧
    byteAt u 11 = clockCodes ∧ field32 u 12 = s.ltu.lastM.toNat ∧ field16 u 16 = s.jets.k % 2 ^ 16 ∧
    field32 u 18 = s.jets.request % 2 ^ 32 ∧ field16 u 22 = effectiveWind s % 2 ^ 16 ∧
    byteAt u 24 = s.peers.length % 256 ∧ (s.ctl.refusal = none → byteAt u 25 = 0) ∧
    (∀ op state, s.ctl.refusal = some (op, state) → byteAt u 25 = 16 * (match op with
        | .arm => 1
        | .start => 2
        | .stop => 3
        | .other => 4
        | .cue => 5) + (match state with
        | .idle => 0
        | .arming => 1
        | .armed => 2
        | .running => 3
        | .ending => 4
        | .safe => 5)) ∧
    (∀ j : Jet, field16 u (26 + 2 * j.val) = (8192 * pumpCodes j + s.jets.pumps[j].sOut) % 2 ^ 16) ∧
    (List.range 15).map (fun i => field16 u (50 + 2 * i)) =
      [s.counters.rxCrc, s.counters.rxUnknown, s.counters.rxFormat, s.counters.txCollision, s.counters.txGiveUp,
       s.counters.txReplaced, s.counters.peerOverflow, s.counters.cueReject, s.counters.cueStale, s.counters.cueMalformed,
       s.counters.demandReject, s.counters.eccCorrected, s.counters.eccFailed, s.counters.underrunFrames,
       s.counters.refused].map (· % 2 ^ 16)

/-! ### Line time -/

/-- A BEACON_POINT that makes no step (R33, R41, R43 to R46, R51, R52). The samples are the offsets of the records of age at
most 1,000 ms, of the own sync group and with sample_new set, in the table's order, which is station order as
LineAndTableInvariant says; sample_new is cleared in those records and nothing else of the table moves. Taking no samples, it
leaves LT, the pending correction, its rate and spacing, the near count and the last m, and the empty count counts; the fourth
in a row enters FREE and clears them. With samples whose lower median m calls for no step LT stays; m is recorded; the pending
correction becomes 0 in the deadband and m otherwise, at the fast rate above 2,400; its spacing restarts; the clock state
moves; the samples are taken. The next point lies 2^k + j ms on, j from 0 to 7, free (log 3). That the rate stays as it was at
the entry to FREE is the model's (log 44). -/
def Obligations.BeaconPointEvaluates : Prop :=
  ∀ s : State, s.phase = .running → s.ltu.beaconTimer = some 0 →
    let gives := fun p : PeerRecord => decide (p.age ≤ 1000 ∧ p.syncGroup = s.config.syncGroup ∧ p.sampleNew = true)
    let given := s.peers.filter gives
    let samples := given.map fun p => p.offset.toInt
    let m := lowerMedian (0 :: samples)
    samples = [] ∨ m.natAbs ≤ 2400 ∨ (m.natAbs ≤ 48000 ∧ (s.ctl.state = .running ∨ s.ctl.state = .ending)) →
    clockSamples s.config.syncGroup s.peers = samples ∧ (PeersHeld s → given.Pairwise fun p q => p.station < q.station) ∧
    ∃ t j, exec .beaconPoint s = .next t ∧ j < 8 ∧ t.ltu.beaconTimer = some (2 ^ s.config.beaconK + j) ∧
      t = { s with generator := t.generator, ltu := t.ltu, line := t.line, peers := t.peers,
                   counters := { s.counters with txReplaced := t.counters.txReplaced } } ∧
      (samples = [] → t.peers = s.peers ∧
        (s.ltu.emptyCount < 3 →
          t.ltu = { s.ltu with emptyCount := s.ltu.emptyCount + 1, beaconTimer := t.ltu.beaconTimer }) ∧
        (3 ≤ s.ltu.emptyCount →
          t.ltu = { s.ltu with clock := .free, correction := 0, spacing := 0, emptyCount := 0, near := 0, lastM := 0#32,
                               beaconTimer := t.ltu.beaconTimer })) ∧
      (samples ≠ [] → t.ltu.lt = s.ltu.lt ∧ t.ltu.nextControl = s.ltu.nextControl ∧ t.ltu.made = s.ltu.made ∧
        t.ltu.lastM = BitVec.ofInt 32 m ∧ t.ltu.correction = (if m.natAbs ≤ 2 then 0 else m) ∧
        (2 < m.natAbs → (t.ltu.fast = true ↔ 2400 < m.natAbs)) ∧ t.ltu.spacing = 0 ∧ t.ltu.emptyCount = 0 ∧
        (s.ltu.clock = .free → t.ltu.clock = .acquiring ∧ t.ltu.near = if m.natAbs ≤ 24 then 1 else 0) ∧
        (s.ltu.clock = .acquiring → 24 < m.natAbs → t.ltu.clock = .acquiring ∧ t.ltu.near = 0) ∧
        (s.ltu.clock = .acquiring → m.natAbs ≤ 24 → s.ltu.near < 3 →
          t.ltu.clock = .acquiring ∧ t.ltu.near = s.ltu.near + 1) ∧
        (s.ltu.clock = .acquiring → m.natAbs ≤ 24 → 3 ≤ s.ltu.near → t.ltu.clock = .locked ∧ t.ltu.near = 4) ∧
        (s.ltu.clock = .locked → m.natAbs ≤ 240 → t.ltu.clock = .locked) ∧
        (s.ltu.clock = .locked → 240 < m.natAbs → t.ltu.clock = .acquiring ∧ t.ltu.near = 0) ∧
        clockSamples s.config.syncGroup t.peers = [] ∧ t.peers.map (·.offset) = s.peers.map (·.offset) ∧
        t.peers = s.peers.map fun p => if gives p = true then { p with sampleNew := false } else p)

/-- A BEACON_POINT whose lower median m exceeds 2,400 while no show plays steps LT (R25, R40, R45, R49): LT advances
by 1 + m at this boundary, every offset falls by m, no correction stays pending, a backward step moves N, and the
audio is told of a step. Here no slew action was made at the boundary. That the step makes this boundary's advance is
the model's order (log 5). The lower median of a list is one of its values, at most floor((n - 1) / 2) values lie below it
and more than that lie at or below it: it is the element at that index of the sorted list (00 Terms, R43). -/
def Obligations.EvaluationSteps : Prop :=
  (∀ s : State, s.phase = .running → s.ltu.beaconTimer = some 0 → clockSamples s.config.syncGroup s.peers ≠ [] →
    s.ltu.made = none → s.ctl.state ≠ .running → s.ctl.state ≠ .ending →
    let m := lowerMedian (0 :: clockSamples s.config.syncGroup s.peers)
    2400 < m.natAbs →
    ∃ t, exec .beaconPoint s = .next t ∧
      t = { s with generator := t.generator, ltu := t.ltu, line := t.line, peers := t.peers,
                   counters := { s.counters with txReplaced := t.counters.txReplaced } } ∧
      t.ltu.lt = s.ltu.lt + BitVec.ofInt 32 (1 + m) ∧ t.ltu.made = some .step ∧ t.ltu.correction = 0 ∧
      t.ltu.spacing = 0 ∧ t.ltu.lastM = BitVec.ofInt 32 m ∧ t.ltu.emptyCount = 0 ∧
      t.ltu.nextControl = (if m < 0 then nextControlAfter t.ltu.lt else s.ltu.nextControl) ∧
      t.peers.map (·.offset) = s.peers.map (fun p => p.offset - BitVec.ofInt 32 m) ∧
      t.line.rx.correction = s.line.rx.correction + BitVec.ofInt 32 m) ∧
  ∀ l : List Int, l ≠ [] →
    lowerMedian l ∈ l ∧ (l.filter fun v => v < lowerMedian l).length ≤ (l.length - 1) / 2 ∧
    (l.length - 1) / 2 < (l.filter fun v => v ≤ lowerMedian l).length

/-- A BEACON_POINT whose lower median m exceeds 48,000 while a show plays (R49, R50, R66, R85, R105, R107): LT steps, and the
same event re-seeks to q, the stepped LT less the start LT. In RUNNING with q below the show length the show goes on by seek:
the TRACK entries are gone, both streams start afresh at q, the AUDIO stream an audio delay earlier, and catch-up begins; at
or above it ENDING is entered with fade 100. In ENDING with q below it the AUDIO stream alone starts afresh; otherwise no
stream moves. A stream started where the index page is held has its segment's record and demands its start page; elsewhere
its lookup waits. Here the entries of the held index pages are good, the audio delay is at most 4,800, as RequestInvariant
says, and q less the delay is a signed 32-bit number. That the step makes this boundary's advance, and which
segment the AUDIO stream looks up, are the model's choices (log 5, log 35). -/
def Obligations.StepReSeeks : Prop :=
  ∀ (s : State) (start : LineTime) (d : ShowDescription), s.phase = .running → s.ltu.beaconTimer = some 0 →
    s.ltu.made = none → s.ctl.startLt = some start → s.flash.description = some d → 1 ≤ d.segments → IndexSound d s →
    s.flash.slotFreed = false → s.flash.heldNow = [] →
    s.flash.armDemand = none → s.flash.indexDemands = [] →
    s.ctl.state = .running ∨ (s.ctl.state = .ending ∧ s.flash.cue = StreamRecord.off) →
    (∀ (i : Fin 16) (page : Nat) (x : Option StreamId) (content : PageContent) (mark : Bool),
      s.flash.slots[i] = .filled page x content mark → x = some .audio ∨ (x = some .cue ∧ s.ctl.state = .running)) →
    let m := lowerMedian (0 :: clockSamples s.config.syncGroup s.peers)
    48000 < m.natAbs →
    let lt := s.ltu.lt + BitVec.ofInt 32 (1 + m)
    let q := ltDiff lt start
    DelayHeld s → -(2 ^ 31) ≤ q - s.config.audioDelay →
    ∃ t, exec .beaconPoint s = .next t ∧ t.ltu.lt = lt ∧ t.ltu.made = some .step ∧ t.ltu.correction = 0 ∧
      t.ltu.lastM = BitVec.ofInt 32 m ∧ t.peers.map (·.offset) = s.peers.map (fun p => p.offset - BitVec.ofInt 32 m) ∧
      (s.ctl.state = .running → q < d.segments * 48000 →
        t.ctl = s.ctl ∧ t.ctx = s.ctx ∧ t.jets = s.jets ∧ SeekLeaves q s t) ∧
      (s.ctl.state = .running → d.segments * 48000 ≤ q →
        t.ctl = { s.ctl with state := .ending, fadeEnd := some (lt + 48000#32) } ∧ t.cues.entries = [] ∧
        t.flash.cue.on = false ∧ t.ctx = fadeContexts lt (lt + 48000#32) s.ctx) ∧
      (s.ctl.state = .ending → q < d.segments * 48000 →
        t.ctl = s.ctl ∧ t.ctx = s.ctx ∧ t.jets = s.jets ∧ t.cues = s.cues ∧ t.flash.cue = StreamRecord.off ∧
        StreamStarted .audio (max q 0 - s.config.audioDelay).toNat s t ∧ t.audio.opening = none ∧
        ∀ i : Fin 16, (t.flash.slots[i]).heldFor .audio = false) ∧
      (s.ctl.state = .ending → d.segments * 48000 ≤ q →
        t.ctl = s.ctl ∧ t.ctx = s.ctx ∧ t.jets = s.jets ∧ t.cues = s.cues ∧ t.flash = s.flash ∧ t.audio = s.audio)

/-- What a BEACON_POINT does to the BEACON slot (R10, R18, R42): EMPTY, it holds the new beacon, WAITING with a = 0;
WAITING, the new beacon replaces it with a = 0 and TX_REPLACED counts; SENDING, it is untouched and the beacon is
pending. The beacon carries the clock state the evaluation has left. In LISTEN-ONLY neither slot changes. -/
def Obligations.BeaconSlotAtBeaconPoint : Prop :=
  ∀ s : State, s.phase = .running → s.ltu.beaconTimer = some 0 →
    ∃ t, exec .beaconPoint s = .next t ∧ t.line.status = s.line.status ∧ t.line.drawRange = s.line.drawRange ∧
      (s.station = 0 → t.line.beacon = s.line.beacon ∧ t.line.buildPending = s.line.buildPending) ∧
      (s.station ≠ 0 → s.line.beacon.use = .empty →
        t.line.beacon = waitingSlot (beaconPayload t) ∧ t.counters.txReplaced = s.counters.txReplaced) ∧
      (s.station ≠ 0 → s.line.beacon.use = .waiting →
        t.line.beacon = waitingSlot (beaconPayload t) ∧ t.counters.txReplaced = bump s.counters.txReplaced) ∧
      (s.station ≠ 0 → s.line.beacon.use = .sending → t.line.beacon = s.line.beacon ∧ t.line.buildPending = true)

/-- FRAME_BOUNDARY. While no show plays (R36, R38, R47, R164, R165, R170) LT advances by 1, unless a slew action or a step has
made the advance, whose kind is then handed over; the frame is zero and the run count 0; a pending correction counts the
period. Every 48th ends a millisecond (3.1), and that ages the peer records by one, to 20,001 at most (R26), runs the beacon
count down (R42), and every timer on: flash, pumps, park causes, sensors (R74, R146 to R148, R152, R153, R175, R176, R179,
R181, R183); an interlock input that has stood at two ticks at a level its qualified state is not at becomes due (R184). No
timer but the flash port's runs before the end of start-up. That a slew action or a step comes before it, that ticks fall
with boundaries, the due marks, and the pins' levels as a free value are the model's (log 4, log 5, log 16). -/
def Obligations.FrameBoundaryTicks : Prop :=
  ∀ s : State, s.phase ≠ .inReset →
    let tick := 47 ≤ s.framePhase
    let works := tick ∧ s.phase = .running
    ∃ t, exec .frameBoundary s = .next t ∧ t.framePhase = (if tick then 0 else s.framePhase + 1) ∧
      t.ticks = (if tick then s.ticks + 1 else s.ticks) ∧ t.config = s.config ∧ t.line = s.line ∧
      t.ltu.lt = (if s.ltu.made = none then s.ltu.lt + 1#32 else s.ltu.lt) ∧ t.ltu.made = none ∧
      t.ltu.nextControl = s.ltu.nextControl ∧ t.ltu.clock = s.ltu.clock ∧ t.ltu.correction = s.ltu.correction ∧
      t.ltu.spacing = (if s.ltu.correction = 0 then s.ltu.spacing
        else min (s.ltu.spacing + 1) (if s.ltu.fast then 100 else 1000)) ∧
      t.audio.advance = s.ltu.made.getD .ordinary ∧
      t.peers = (if works then s.peers.map fun p => { p with age := min (p.age + 1) 20001 } else s.peers) ∧
      t.ltu.beaconTimer = (if works then s.ltu.beaconTimer.map fun n => n - 1 else s.ltu.beaconTimer) ∧
      (s.ctl.state ≠ .running → s.ctl.state ≠ .ending →
        t = { s with framePhase := t.framePhase, ticks := t.ticks, ltu := t.ltu, audio := t.audio, peers := t.peers,
                     sensors := t.sensors, jets := t.jets, locks := t.locks,
                     flash := { s.flash with timer := t.flash.timer } } ∧
        t.audio = { s.audio with left := 0#16, right := 0#16, run := 0, advance := t.audio.advance } ∧
        t.flash.timer = (if tick then s.flash.timer.map fun n => min (n + 1) 5 else s.flash.timer) ∧
        (¬works → t.sensors = s.sensors ∧ t.jets = s.jets ∧ t.locks = s.locks) ∧
        (works →
          let ms := (s.sensors.ms + 1) % 1000
          let high := fun n : Nat => (Config.interlockLevels (s.ticks + 1)).getLsbD n
          let active := fun n : Fin 14 => high n.val == s.config.activeHigh.getLsbD n.val
          let due := fun (n : Fin 14) (qualified : Bool) =>
            s.locks.due[n] || (active n != qualified && (s.locks.seen.map fun v => v[n]) == some (active n))
          t.jets = { s.jets with
            pumps := t.jets.pumps
            primeReady := s.jets.primeReady.map fun n => min (n + 1) 5500
            windResume := s.jets.windResume.map fun n => min (n + 1) 30000
            levelResume := s.jets.levelResume.map fun n => min (n + 1) 60000 } ∧
          (∀ j : Jet, t.jets.pumps[j] = { s.jets.pumps[j] with
            primeTimer := if s.jets.pumps[j].state = .priming ∧ s.jets.pumps[j].sOut = s.config.sPrime
              then min (s.jets.pumps[j].primeTimer + 1) s.config.tPrime else s.jets.pumps[j].primeTimer
            runDownTimer := if s.jets.pumps[j].state = .parking
              then min (s.jets.pumps[j].runDownTimer + 1) s.config.runDown else s.jets.pumps[j].runDownTimer }) ∧
          t.sensors = { s.sensors with
            ms := ms
            due := t.sensors.due
            secondDue := s.sensors.secondDue || ms == 0
            warmUp := s.sensors.warmUp.map fun n => n - 1
            lowTimer := s.sensors.lowTimer.map fun n => min (n + 1) 2000
            highTimer := s.sensors.highTimer.map fun n => min (n + 1) 60000
            dryA := s.sensors.dryA.map fun n => min (n + 1) 2000
            dryB := s.sensors.dryB.map fun n => min (n + 1) 2000 } ∧
          (∀ i : AnalogInput, t.sensors.due.get i = (s.sensors.due.get i || (s.sensors.ms + 1) % 10 == 0)) ∧
          t.locks = { s.locks with seen := t.locks.seen, due := t.locks.due } ∧
          (∀ n : Fin 14, (t.locks.seen.map fun v => v[n]) = some (active n)) ∧
          t.locks.due[0] = due 0 s.locks.estop ∧ t.locks.due[1] = due 1 s.locks.aux ∧
          ∀ j : Jet, t.locks.due[driveInput j] =
            if s.jets.pumps[j].state = .disabled then s.locks.due[driveInput j]
            else due (driveInput j) s.locks.drive[j]))

/-- FRAME_BOUNDARY in RUNNING or ENDING at an audio position inside the show, the AUDIO reader being on the page that holds
it with its slot IN_USE, before frame 400 of the page or with the following page's early demand made, and the frame's sector
not silenced: the frame's two samples go out as floor(sample × g / 256), g the gain context's value at the new LT, and the
run count is 0 (R164 to R167, R170). -/
def Obligations.FramePlaysSamples : Prop :=
  ∀ (s : State) (start : LineTime) (d : ShowDescription) (p : ReaderPage) (c : SegmentRecord) (o : Opening)
    (i : Fin 16) (content : PageContent),
    s.phase ≠ .inReset → s.ctl.state = .running ∨ s.ctl.state = .ending → s.ltu.made = none →
    s.ctl.startLt = some start → s.flash.description = some d → s.flash.slotFreed = false → s.flash.heldNow = [] →
    let lt := s.ltu.lt + 1#32
    let a := (lt - start - BitVec.ofNat 32 s.config.audioDelay).toInt
    0 ≤ a → a < d.segments * 48000 →
    s.flash.audio.page = some p → p.segment = a.toNat / 48000 → p.index = a.toNat % 48000 / 500 →
    s.flash.audio.current = some c → c.segment = p.segment → s.flash.audio.early = true ∨ a.toNat % 500 < 400 →
    findSlot (Slot.isInUseFor .audio p.flashPage) s.flash = some i → (s.flash.slots[i]).content = some content →
    s.audio.opening = some o → silenced (some o) ((48 + 4 * (a.toNat % 500)) / 512) = false →
    let g := natContextAt lt s.ctx.gain
    let out := fun at_ : Nat => BitVec.ofInt 16 (Int.fdiv ((sampleAt content.data at_).toInt * g) 256)
    ∃ t, exec .frameBoundary s = .next t ∧ t.ltu.lt = lt ∧ t.audio.left = out (48 + 4 * (a.toNat % 500)) ∧
      t.audio.right = out (50 + 4 * (a.toNat % 500)) ∧ t.audio.run = 0 ∧ t.counters = s.counters ∧ t.ctl = s.ctl ∧
      t.cues = s.cues ∧ t.ctx = s.ctx ∧ t.faults = s.faults ∧ t.flash = { s.flash with timer := t.flash.timer }

/-- FRAME_BOUNDARY in RUNNING or ENDING where no sample is played (R164, R165, R169, R170). A page the reader is not on, for
it is on none or on a later one, or whose slot is not IN_USE, makes an underrun frame: zero, counted in UNDERRUN_FRAMES and in
the run, which holds at 4,800 and latches AUDIO_UNDERRUN as it reaches it. A frame of a silenced sector is zero and no
underrun. An audio position below 0 gives zero. At or beyond the show's end the frame is zero and the reader leaves its page,
and RUNNING becomes ENDING with fade 100. Here the early demand is not due, and at the show's end no index page is awaited and
no demand is pending. -/
def Obligations.FramesNotPlayed : Prop :=
  ∀ (s : State) (start : LineTime) (d : ShowDescription),
    s.phase ≠ .inReset → s.ctl.state = .running ∨ s.ctl.state = .ending → s.ltu.made = none →
    s.ctl.startLt = some start → s.flash.description = some d → s.flash.slotFreed = false → s.flash.heldNow = [] →
    let lt := s.ltu.lt + 1#32
    let a := (lt - start - BitVec.ofNat 32 s.config.audioDelay).toInt
    let inside := 0 ≤ a ∧ a < d.segments * 48000
    let on := fun (p : ReaderPage) (c : SegmentRecord) =>
      p.segment = a.toNat / 48000 ∧ p.index = a.toNat % 48000 / 500 ∧ c.segment = p.segment ∧
        (s.flash.audio.early = true ∨ a.toNat % 500 < 400)
    let zero := { s.audio with left := 0#16, right := 0#16, run := 0, advance := .ordinary }
    (inside →
      s.flash.audio.page = none ∨
        (∃ p c, s.flash.audio.page = some p ∧ s.flash.audio.current = some c ∧ c.segment = p.segment ∧
          a.toNat / 500 < p.segment * 96 + p.index ∧ p.index < 96) ∨
        (∃ p c, s.flash.audio.page = some p ∧ s.flash.audio.current = some c ∧ on p c ∧
          findSlot (Slot.isInUseFor .audio p.flashPage) s.flash = none) →
      ∃ t, exec .frameBoundary s = .next t ∧ t.audio = { zero with run := min (s.audio.run + 1) 4800 } ∧
        t.counters = { s.counters with underrunFrames := bump s.counters.underrunFrames } ∧
        (∀ f : FaultSource, isLatched f t = (isLatched f s || (f == .audioUnderrun && s.audio.run == 4799))) ∧
        t.ctl = s.ctl ∧ t.ctx = s.ctx ∧ t.cues = s.cues ∧ t.flash = { s.flash with timer := t.flash.timer }) ∧
    (∀ (p : ReaderPage) (c : SegmentRecord) (o : Opening) (i : Fin 16), inside → s.flash.audio.page = some p →
      s.flash.audio.current = some c → on p c → findSlot (Slot.isInUseFor .audio p.flashPage) s.flash = some i →
      s.audio.opening = some o → silenced (some o) ((48 + 4 * (a.toNat % 500)) / 512) = true →
      ∃ t, exec .frameBoundary s = .next t ∧ t.audio = zero ∧ t.counters = s.counters ∧ t.faults = s.faults ∧
        t.ctl = s.ctl ∧ t.ctx = s.ctx ∧ t.cues = s.cues ∧ t.flash = { s.flash with timer := t.flash.timer }) ∧
    (a < 0 →
      ∃ t, exec .frameBoundary s = .next t ∧ t.audio = zero ∧ t.counters = s.counters ∧ t.faults = s.faults ∧
        t.ctl = s.ctl ∧ t.ctx = s.ctx ∧ t.cues = s.cues ∧ t.flash = { s.flash with timer := t.flash.timer }) ∧
    (d.segments * 48000 ≤ a → s.flash.lookups = [] → s.flash.indexDemands = [] → s.flash.armDemand = none →
      s.flash.cue.pendingDemand = none → s.flash.audio.pendingDemand = none →
      ∃ t, exec .frameBoundary s = .next t ∧ t.audio.left = 0#16 ∧ t.audio.right = 0#16 ∧ t.audio.run = 0 ∧
        t.flash.audio.page = none ∧ t.counters = s.counters ∧ t.faults = s.faults ∧
        (s.ctl.state = .running →
          t.ctl = { s.ctl with state := .ending, fadeEnd := some (lt + 48000#32) } ∧ t.cues.entries = [] ∧
          t.flash.cue.on = false ∧ t.ctx = fadeContexts lt (lt + 48000#32) s.ctx) ∧
        (s.ctl.state = .ending → t.ctl = s.ctl ∧ t.cues = s.cues ∧ t.ctx = s.ctx))

/-- The AUDIO reader at a FRAME_BOUNDARY (R78, R79, R80, R87, R89, R90, R91, R92). Where the position lies in a later page than
the reader's, of the segment it is in or of the next one whose record it holds, the reader takes that page, its old slot is
left, and the page is judged: FILLED for the stream it goes IN_USE, the depth one higher, to 6 at most, with the prefetch mark
and unchanged without; in a prefetch entry it is a confirmation too, and demanded; in a demand entry of the stream neither; and
otherwise it is a miss, the depth 2 and the page demanded. The pages jumped over are abandoned. A page not there yet makes an
underrun frame. The early demand comes once for a page, at frame 400 and beyond: a following page that is neither FILLED nor
occupied is demanded and the depth is 2; any other changes nothing else. Here the window stays in the segment and no stream's
demand is pending; that the early demand is made also by a reader that enters a page beyond its frame 400 is the model's
reading (log 14), and so is whose pages are abandoned (log 18). -/
def Obligations.AudioReaderMoves : Prop :=
  ∀ (s : State) (start : LineTime) (d : ShowDescription) (p : ReaderPage) (c : SegmentRecord),
    s.phase ≠ .inReset → s.ctl.state = .running ∨ s.ctl.state = .ending → s.ltu.made = none →
    s.ctl.startLt = some start → s.flash.description = some d → FlashHeld s → StreamsHeld s → s.flash.audio.on = true →
    s.flash.audio.pendingDemand = none → s.flash.cue.pendingDemand = none → s.flash.indexDemands = [] →
    s.flash.audio.page = some p → s.flash.audio.current = some c → c.segment = p.segment →
    let lt := s.ltu.lt + 1#32
    let a := (lt - start - BitVec.ofNat 32 s.config.audioDelay).toInt
    let index := a.toNat % 48000 / 500
    0 ≤ a → a < d.segments * 48000 → index + 7 ≤ 96 →
    let named := fun (f : FlashEngine) (page : Nat) => f.queue.any fun e => e.page == page && !e.discard
    let taken := fun (n : SegmentRecord) (t : State) =>
      let page := n.entry.firstAudio + index
      let depth := s.flash.audio.depth
      t.flash.audio.page = some ⟨n.segment, index, page⟩ ∧ t.flash.audio.current = some n ∧ t.ctl = s.ctl ∧
      (∀ i : Fin 16, (t.flash.slots[i]).isInUseFor .audio p.flashPage = true → p.flashPage = page) ∧
      (∀ (i : Fin 16) (content : PageContent) (mark : Bool),
        findSlot (Slot.isFilledFor .audio page) s.flash = some i → s.flash.slots[i] = .filled page (some .audio) content mark →
        t.flash.slots[i] = .inUse page (some .audio) content mark ∧
        t.flash.audio.depth = (if mark = true then min (depth + 1) 6 else depth) ∧ t.audio.run = 0) ∧
      (∀ e ∈ s.flash.queue, e.page = page → e.discard = false → e.kind = .prefetch →
        t.flash.audio.depth = min (depth + 1) 6 ∧ Demanded .audio page t) ∧
      (∀ e ∈ s.flash.queue, e.page = page → e.discard = false → e.kind = .demand → t.flash.audio.depth = depth) ∧
      (named s.flash page = false → (∀ i : Fin 16, (s.flash.slots[i]).isFilled page = false) →
        t.flash.audio.depth = 2 ∧ Demanded .audio page t) ∧
      ((∀ i : Fin 16, (s.flash.slots[i]).holds page = false) →
        t.counters.underrunFrames = bump s.counters.underrunFrames ∧ t.audio.left = 0#16 ∧ t.audio.right = 0#16)
    (a.toNat / 48000 = c.segment → p.index < index → a.toNat % 500 < 400 → p.flashPage = c.entry.firstAudio + p.index →
      ∃ t, exec .frameBoundary s = .next t ∧ taken c t ∧
        ∀ k, p.index < k → k < index →
          (∀ i : Fin 16, (t.flash.slots[i]).isFilled (c.entry.firstAudio + k) = false) ∧
          ∀ e ∈ t.flash.queue, e.page = c.entry.firstAudio + k → e.stream = none ∨ e.discard = true) ∧
    (∀ n : SegmentRecord, a.toNat / 48000 = c.segment + 1 → s.flash.audio.next = some n → n.segment = c.segment + 1 →
      a.toNat % 500 < 400 → p.index = 95 → index = 0 → p.flashPage ≠ n.entry.firstAudio →
      n.segment % 128 < 96 → ∃ t, exec .frameBoundary s = .next t ∧ taken n t ∧ t.flash.audio.next = none) ∧
    (a.toNat / 48000 = c.segment → p.index = index → 400 ≤ a.toNat % 500 → s.flash.audio.early = false →
      let following := c.entry.firstAudio + index + 1
      ∃ t, exec .frameBoundary s = .next t ∧ t.ctl = s.ctl ∧ t.flash.audio.page = some p ∧ t.flash.audio.early = true ∧
        (named s.flash following = true ∨ (∃ i : Fin 16, (s.flash.slots[i]).isFilled following = true) →
          t.flash = { s.flash with timer := t.flash.timer, audio := { s.flash.audio with early := true } }) ∧
        (named s.flash following = false → (∀ i : Fin 16, (s.flash.slots[i]).isFilled following = false) →
          t.flash.audio.depth = 2 ∧ Demanded .audio following t ∧
          (t.flash.audio.pendingDemand = none → t.counters.demandReject = s.counters.demandReject) ∧
          (t.flash.audio.pendingDemand = some following →
            t.counters.demandReject = bump s.counters.demandReject ∧ t.flash.queue = s.flash.queue)))

/-! ### Control instants -/

/-- CONTROL_INSTANT (R39): none while LT is before N. At one, N becomes the smallest multiple of 480 numerically above LT,
or 0 if there is none below 2^32, and LT stays; before the end of start-up nothing else happens. -/
def Obligations.ControlInstantMovesN : Prop :=
  ∀ s : State, s.phase ≠ .inReset →
    (ltDiff s.ltu.lt s.ltu.nextControl < 0 → exec .controlInstant s = .next s) ∧
    (0 ≤ ltDiff s.ltu.lt s.ltu.nextControl →
      ∃ t, exec .controlInstant s = .next t ∧ t.ltu = { s.ltu with nextControl := t.ltu.nextControl } ∧
        t.ltu.nextControl.toNat % 480 = 0 ∧
        (s.ltu.lt.toNat < 4294967040 →
          s.ltu.lt.toNat < t.ltu.nextControl.toNat ∧ t.ltu.nextControl.toNat ≤ s.ltu.lt.toNat + 480) ∧
        (4294967040 ≤ s.ltu.lt.toNat → t.ltu.nextControl = 0#32) ∧
        (s.phase = .startUp → t = { s with ltu := t.ltu }))

/-- The release of a control instant in ARMED or RUNNING (R110, R123, R124, R128 to R130). After it the Cue Queue's head, if
there is one, is not due; no entry has joined, and those that stay keep their order. What a released cue does, here the only
entry: a LIVE cue more than 48,000 counts late is counted and does nothing; any other acts with its effective ramp. A JET,
LIGHT or GAIN cue sets the TRACK or the LIVE layer of each masked context of its kind from its value now to the target,
leaving the other layer; a RELEASE ends each masked LIVE layer of the jets, the lights and the gain; an END ends RUNNING with
its effective ramp as the fade, every FILLED or IN_USE slot belonging to a stream, as RequestInvariant says, and does nothing
in ARMED. The value of a layer at LT t (R127): v1 at or after t1, v0 before t0 and t1, and otherwise v0 + trunc((v1 - v0) ×
(t - t0) / (t1 - t0)), for a ramp that does not end before it starts; a light's components each by that rule; and a context's
value is that of its LIVE layer, or of its TRACK layer where there is none (R126). The order of the blocks at the instant is
the model's (log 11). -/
def Obligations.DueCuesAct : Prop :=
  (∀ (t : LineTime) (l : Layer Nat),
    (0 ≤ ltDiff t l.t1 → natLayerAt t l = l.v1) ∧
    (ltDiff t l.t1 < 0 → ltDiff t l.t0 < 0 → natLayerAt t l = l.v0) ∧
    (ltDiff t l.t1 < 0 → 0 ≤ ltDiff t l.t0 → 0 ≤ ltDiff l.t1 l.t0 →
      (natLayerAt t l : Int) = l.v0 + Int.tdiv (((l.v1 : Int) - l.v0) * ltDiff t l.t0) (ltDiff l.t1 l.t0))) ∧
  (∀ (t : LineTime) (l : Layer Rgb),
    (rgbLayerAt t l).r = natLayerAt t { v0 := l.v0.r, v1 := l.v1.r, t0 := l.t0, t1 := l.t1 } ∧
    (rgbLayerAt t l).g = natLayerAt t { v0 := l.v0.g, v1 := l.v1.g, t0 := l.t0, t1 := l.t1 } ∧
    (rgbLayerAt t l).b = natLayerAt t { v0 := l.v0.b, v1 := l.v1.b, t0 := l.t0, t1 := l.t1 }) ∧
  (∀ (t : LineTime) (c : Context Nat), natContextAt t c = natLayerAt t (c.live.getD c.track)) ∧
  (∀ (t : LineTime) (c : Context Rgb), rgbContextAt t c = rgbLayerAt t (c.live.getD c.track)) ∧
  (∀ s : State, s.phase = .running → 0 ≤ ltDiff s.ltu.lt s.ltu.nextControl →
    s.ctl.state = .armed ∨ s.ctl.state = .running →
    ∃ t, exec .controlInstant s = .next t ∧ t.ltu.lt = s.ltu.lt ∧ t.cues.entries.Sublist s.cues.entries ∧
      ∀ e rest, t.cues.entries = e :: rest → atOrAfter t.ltu.lt e.due = false) ∧
  ∀ (s : State) (e : CueEntry), s.phase = .running → 0 ≤ ltDiff s.ltu.lt s.ltu.nextControl →
    s.ctl.state = .armed ∨ s.ctl.state = .running → s.cues.entries = [e] → 0 ≤ ltDiff s.ltu.lt e.due →
    s.flash.slotFreed = false → s.flash.heldNow = [] → s.flash.lookups = [] → s.flash.armDemand = none →
    let lt := s.ltu.lt
    let late := ltDiff lt e.due
    let ramp := ((e.ramp : Int) - late / 480).toNat
    let end_ := lt + BitVec.ofNat 32 (480 * ramp)
    let released := fun (α : Type) (at_ : Layer α → α) (masked : Bool) (before after : Context α) =>
      (masked = false ∨ before.live = none → after = before) ∧
      ∀ l, masked = true → before.live = some l →
        after = { track := { v0 := at_ l, v1 := before.track.v1, t0 := lt,
                             t1 := if 0 ≤ ltDiff end_ before.track.t1 then end_ else before.track.t1 },
                  live := none }
    let set := fun (α : Type) (at_ : Layer α → α) (v : α) (masked : Bool) (before after : Context α) =>
      (masked = false → after = before) ∧
      (masked = true → e.source = .track →
        after = { before with track := { v0 := at_ before.track, v1 := v, t0 := lt, t1 := end_ } }) ∧
      (masked = true → e.source = .live →
        after = { before with live := some { v0 := at_ (before.live.getD before.track), v1 := v, t0 := lt, t1 := end_ } })
    ∃ t, exec .controlInstant s = .next t ∧ t.cues.entries = [] ∧
      (e.source = .live → 48000 < late →
        t.ctx = s.ctx ∧ t.ctl = s.ctl ∧ t.counters = { s.counters with cueStale := bump s.counters.cueStale }) ∧
      (e.source = .track ∨ late ≤ 48000 →
        (∀ h, e.kind = .jet h → t.counters = s.counters ∧ t.ctl = s.ctl ∧
          t.ctx.lights = s.ctx.lights ∧ t.ctx.gain = s.ctx.gain ∧
          ∀ j : Jet, set Nat (natLayerAt lt) h (e.mask.getLsbD j.val) s.ctx.jets[j] t.ctx.jets[j]) ∧
        (∀ v, e.kind = .light v → t.counters = s.counters ∧ t.ctl = s.ctl ∧
          t.ctx.jets = s.ctx.jets ∧ t.ctx.gain = s.ctx.gain ∧
          ∀ j : Jet, set Rgb (rgbLayerAt lt) v (e.mask.getLsbD j.val) s.ctx.lights[j] t.ctx.lights[j]) ∧
        (∀ g, e.kind = .gain g → t.counters = s.counters ∧ t.ctl = s.ctl ∧
          t.ctx.jets = s.ctx.jets ∧ t.ctx.lights = s.ctx.lights ∧
          set Nat (natLayerAt lt) g (e.mask.getLsbD 0) s.ctx.gain t.ctx.gain) ∧
        (e.kind = .release → t.counters = s.counters ∧ t.ctl = s.ctl ∧
          released Nat (natLayerAt lt) (e.mask.getLsbD 0) s.ctx.gain t.ctx.gain ∧
          ∀ j : Jet, released Nat (natLayerAt lt) (e.mask.getLsbD j.val) s.ctx.jets[j] t.ctx.jets[j] ∧
            released Rgb (rgbLayerAt lt) (e.mask.getLsbD j.val) s.ctx.lights[j] t.ctx.lights[j]) ∧
        (e.kind = .ending → s.ctl.state = .armed → t.counters = s.counters ∧ t.ctl = s.ctl ∧ t.ctx = s.ctx) ∧
        (e.kind = .ending → s.ctl.state = .running → ramp ≤ 6000 → s.jets.causes.ending = false → OwnedHeld s →
          t.ctl.state ≠ .running ∧
          (0 < ramp → t.ctl = { s.ctl with state := .ending, fadeEnd := some end_ } ∧
            t.ctx = fadeContexts lt end_ s.ctx ∧ t.flash.cue.on = false)))

/-- The Jet Drive Unit's computation at a control instant (R137 to R143), here in RUNNING and ARMED with no cue queued: the
height under the wind ceiling, the requested speed by the pump's state and the curve, R and T, k and c, the budgeted speed and
the output speed under the acceleration limit, for every jet; what it leaves is what the spec's five stages give. In ARMED a
RUNNING pump follows its height, as R139 has it, or is given a height of 0, as R129 has it that no jet rises before the show
runs: which of the two is free (log 37). The order of the blocks at the instant is the model's (log 11). -/
def Obligations.DriveFollowsHeights : Prop :=
  ∀ s : State, s.phase = .running → 0 ≤ ltDiff s.ltu.lt s.ltu.nextControl →
    s.ctl.state = .running ∨ s.ctl.state = .armed →
    s.cues.entries = [] → s.flash.slotFreed = false → s.flash.heldNow = [] →
    ∃ t, exec .controlInstant s = .next t ∧ t.ctl = s.ctl ∧ t.ctx = s.ctx ∧ t.peers = s.peers ∧ t.config = s.config ∧
      let wind := max (heldWind s) (peerWind s.config.windGroup s.peers)
      let limit := s.config.feedLimit
      let low := s.config.wLow
      let high := s.config.wHigh
      let f := if wind ≤ low then 1000
        else if wind < high then 1000 - 750 * (wind - low) / (high - low)
        else if wind < s.config.wTrip then 250
        else 0
      t.jets.request =
        ((List.finRange 12).map fun j => s.config.jets[j].power * t.jets.pumps[j].sReq ^ 3 / 10 ^ 9).sum ∧
      t.jets.total = t.jets.request + heardDemand s.config.feedGroup s.peers ∧
      t.jets.k = (if limit = 0 ∨ t.jets.total ≤ limit then 1000 else 1000 * limit / t.jets.total) ∧
      t.jets.c ^ 3 ≤ t.jets.k * 10 ^ 6 ∧ t.jets.k * 10 ^ 6 < (t.jets.c + 1) ^ 3 ∧
      ∀ j : Jet,
        let p := t.jets.pumps[j]
        let cfg := s.config.jets[j]
        let capped := min (natContextAt s.ltu.lt s.ctx.jets[j]) (min cfg.hMax cfg.curve[7].height * f / 1000)
        let h := if s.ctl.state = .armed ∧ Config.armedJetsRise = false then 0 else capped
        let b := p.sReq * t.jets.c / 1000
        (p.state = .priming → p.sReq = s.config.sPrime) ∧
        (p.state = .running → h = 0 → p.sReq = 0) ∧
        (p.state = .running → 0 < h → (∀ i : Fin 7, cfg.curve[i.val + 1].height < h) → p.sReq = cfg.curve[7].speed) ∧
        (∀ i : Fin 7, p.state = .running → 0 < h → h ≤ cfg.curve[i.val + 1].height →
          (∀ n : Fin 7, n < i → cfg.curve[n.val + 1].height < h) →
          let rise := cfg.curve[i.val + 1].height - cfg.curve[i.val].height
          p.sReq = cfg.curve[i.val].speed +
            ((cfg.curve[i.val + 1].speed - cfg.curve[i.val].speed) * (h - cfg.curve[i.val].height) + rise - 1) / rise) ∧
        (p.state ≠ .priming → p.state ≠ .running → p.sReq = 0) ∧
        p.sB = (if b < cfg.curve[0].speed ∧ p.state ≠ .priming then 0 else b) ∧
        p.sOut = (if s.jets.pumps[j].sOut < p.sB then min p.sB (s.jets.pumps[j].sOut + cfg.accel) else p.sB)

/-- The WIND and LEVEL park causes at a control instant (R148, R152, R153, R155, R180, R182). At an effective wind of W_TRIP or
more WIND is present, WIND_TRIP latching as it comes to be; from W_HIGH up a present WIND stays and its resume timer stops;
below W_HIGH the timer runs, and at 30,000 ms WIND is cleared. With the basin alarm true, which is LEVEL_LOW, a level input
not READY or a peer of the basin group reporting LEVEL_LOW, LEVEL is present; with it false its timer runs, and at 60,000 ms
LEVEL is cleared. The other causes stay, and a cause that has come to be leaves no pump PRIMING or RUNNING. Here no cue is
queued, the state is not ARMING or ENDING, and an IDLE station joins no show. The order of the blocks at the instant is the
model's (log 11). -/
def Obligations.WindAndLevelPark : Prop :=
  ∀ s : State, s.phase = .running → 0 ≤ ltDiff s.ltu.lt s.ltu.nextControl → s.cues.entries = [] →
    s.flash.slotFreed = false → s.flash.heldNow = [] → s.ctl.state ≠ .arming → s.ctl.state ≠ .ending →
    s.ctl.state ≠ .idle ∨ s.config.autoJoin = false →
    let wind := max (heldWind s) (peerWind s.config.windGroup s.peers)
    let alarm := s.sensors.levelLow = true ∨ s.sensors.inputs.level.health ≠ .ready ∨
      ∃ p ∈ s.peers, p.basinGroup = s.config.basinGroup ∧ p.levelLow = true
    ∃ t, exec .controlInstant s = .next t ∧ t.ctl = s.ctl ∧
      t.jets.causes = { s.jets.causes with wind := t.jets.causes.wind, level := t.jets.causes.level } ∧
      (∀ f : FaultSource, isLatched f t =
        (isLatched f s || (f == .windTrip && !s.jets.causes.wind && decide (s.config.wTrip ≤ wind)))) ∧
      (s.config.wTrip ≤ wind → t.jets.causes.wind = true ∧ t.jets.windResume = none) ∧
      (wind < s.config.wTrip → s.config.wHigh ≤ wind →
        t.jets.causes.wind = s.jets.causes.wind ∧ t.jets.windResume = none) ∧
      (wind < s.config.wTrip → wind < s.config.wHigh →
        (s.jets.causes.wind = false → t.jets.causes.wind = false ∧ t.jets.windResume = s.jets.windResume) ∧
        (s.jets.causes.wind = true → 30000 ≤ s.jets.windResume.getD 0 →
          t.jets.causes.wind = false ∧ t.jets.windResume = none) ∧
        (s.jets.causes.wind = true → s.jets.windResume.getD 0 < 30000 →
          t.jets.causes.wind = true ∧ t.jets.windResume = some (s.jets.windResume.getD 0))) ∧
      (alarm → t.jets.causes.level = true ∧ t.jets.levelResume = none) ∧
      (¬alarm →
        (s.jets.causes.level = false → t.jets.causes.level = false ∧ t.jets.levelResume = s.jets.levelResume) ∧
        (s.jets.causes.level = true → 60000 ≤ s.jets.levelResume.getD 0 →
          t.jets.causes.level = false ∧ t.jets.levelResume = none) ∧
        (s.jets.causes.level = true → s.jets.levelResume.getD 0 < 60000 →
          t.jets.causes.level = true ∧ t.jets.levelResume = some (s.jets.levelResume.getD 0))) ∧
      ((t.jets.causes.wind = true ∧ s.jets.causes.wind = false) ∨ (t.jets.causes.level = true ∧ s.jets.causes.level = false) →
        t.jets.primeReady = none ∧ ∀ j : Jet, t.jets.pumps[j].state ≠ .priming ∧ t.jets.pumps[j].state ≠ .running)

/-- The Lamp Output. At a control instant every light takes the first case of R158: black where it is not enabled,
SAFE_LIGHT in SAFE, black where its jet's new s_out is 0, and otherwise its context's value; and the due mark turns: not due,
it is set; due, it is cleared, and an IDLE transmitter sends a frame of those values while a busy one holds it back (R162).
LAMP_FRAME_DONE builds a frame held back from the slot values as they stand and sends it; with none the transmitter is IDLE,
and nothing else changes. A frame is 5Ah, the 36 slot values and their CRC-16 (R157, R161). At the instant no cue is queued,
the state is not ARMING or ENDING, and an IDLE station joins no show; the order of its blocks is the model's (log 11). -/
def Obligations.LampsFollowContexts : Prop :=
  let frameOf := fun (g : List Byte) (l : LampOutput) =>
    g.length = 39 ∧ byteAt g 0 = 0x5A ∧ field16 g 37 = (crc16 ((g.drop 1).take 36)).toNat ∧
    ∀ i : Jet, byteAt g (1 + 3 * i.val) = l.slots[i].r % 256 ∧ byteAt g (2 + 3 * i.val) = l.slots[i].g % 256 ∧
      byteAt g (3 + 3 * i.val) = l.slots[i].b % 256
  (∀ s : State, s.phase = .running → 0 ≤ ltDiff s.ltu.lt s.ltu.nextControl → s.cues.entries = [] →
    s.flash.slotFreed = false → s.flash.heldNow = [] → s.ctl.state ≠ .arming → s.ctl.state ≠ .ending →
    s.ctl.state ≠ .idle ∨ s.config.autoJoin = false →
    ∃ t, exec .controlInstant s = .next t ∧
      (∀ i : Jet,
        let bound := s.config.lights[i].binding.any fun j => t.jets.pumps[j].sOut == 0
        t.lamp.slots[i] =
          if s.config.lights[i].enable = false then black
          else if s.ctl.state = .safe then safeColour s
          else if bound = true then black
          else rgbContextAt s.ltu.lt s.ctx.lights[i]) ∧
      (∀ j : Jet, t.lamp.speeds[j] = t.jets.pumps[j].sOut) ∧
      (s.lamp.due = false → t.lamp.due = true ∧ t.lamp.sending = s.lamp.sending ∧ t.lamp.heldBack = s.lamp.heldBack) ∧
      (s.lamp.due = true → t.lamp.due = false ∧
        (s.lamp.sending = none → t.lamp.heldBack = s.lamp.heldBack ∧
          ∃ g, t.lamp.sending = some g ∧ frameOf g t.lamp) ∧
        (s.lamp.sending ≠ none → t.lamp.sending = s.lamp.sending ∧ t.lamp.heldBack = true))) ∧
  ∀ (s : State) (f : List Byte), s.lamp.sending = some f →
    (s.lamp.heldBack = false → exec .lampFrameDone s = .next { s with lamp := { s.lamp with sending := none } }) ∧
    (s.lamp.heldBack = true →
      ∃ g, exec .lampFrameDone s = .next { s with lamp := { s.lamp with sending := some g, heldBack := false } } ∧
        frameOf g s.lamp)

/-- ENDING at a control instant (R111, R112). Before the fade end, END clear, nothing is set. At or after the fade end, or
after END has been set, END is present and every PRIMING and RUNNING pump is PARKING, its run-down begun: while a pump is
driven or in run-down, here with a run-down above 0, ENDING goes on; with every pump PARKED, DISABLED or FAULTED teardown
follows and the state is IDLE, line time and peers staying and the station, here, joining no show. No demand waits to be
presented again, as FlashInvariant says of the state between events. Until END is set the present LT decides whether the fade
end is reached (log 36); the order of the blocks at the instant is the model's (log 11). -/
def Obligations.EndingCompletes : Prop :=
  ∀ (s : State) (e : LineTime), s.phase = .running → 0 ≤ ltDiff s.ltu.lt s.ltu.nextControl → s.ctl.state = .ending →
    s.ctl.fadeEnd = some e → s.flash.slotFreed = false → s.flash.heldNow = [] →
    let reached := 0 ≤ ltDiff s.ltu.lt e ∨ s.jets.causes.ending = true
    let driven := fun j : Jet => s.jets.pumps[j].state = .priming ∨ s.jets.pumps[j].state = .running
    let finished := fun j : Jet => s.jets.pumps[j].state = .parked ∨ s.jets.pumps[j].state = .disabled ∨
      s.jets.pumps[j].state = .faulted
    (¬reached → ∃ t, exec .controlInstant s = .next t ∧ t.ctl = s.ctl ∧ t.jets.causes.ending = false ∧
      t.ltu.lt = s.ltu.lt ∧ t.peers = s.peers) ∧
    (reached → (∃ j, ¬finished j) → 0 < s.config.runDown →
      ∃ t, exec .controlInstant s = .next t ∧ t.ctl = s.ctl ∧ t.jets.causes.ending = true ∧ t.ltu.lt = s.ltu.lt ∧
        t.peers = s.peers ∧ (s.cues.entries = [] → t.ctx = s.ctx) ∧
        ∀ j : Jet,
          (driven j → t.jets.pumps[j].state = .parking ∧ t.jets.pumps[j].runDownTimer = 0 ∧
            t.jets.pumps[j].sOut = 0 ∧ runPin t j = true ∧ valvePin t j = true) ∧
          (¬driven j → t.jets.pumps[j].state = s.jets.pumps[j].state)) ∧
    (reached → s.config.autoJoin = false → (∀ j, finished j) →
      ∃ t, exec .controlInstant s = .next t ∧ t.ctl.state = .idle ∧ NoShow t ∧ t.ctx = restContexts s.ltu.lt ∧
        t.ltu.lt = s.ltu.lt ∧ t.peers = s.peers ∧ t.ctl.refusal = s.ctl.refusal ∧ t.ctl.join = s.ctl.join ∧
        ∀ j : Jet, t.jets.pumps[j].state = s.jets.pumps[j].state)

/-- Auto-join at a control instant in IDLE (R34, R98, R102, R108). A vote for a pair is a record, FRESH, of the own sync
group, RUNNING and LOCKED, that reports it. With the flag set and the clock LOCKED, the pair with the most votes, at least 2
and not that of the join record, of equals the one the lowest-numbered station reports, is written into the join record, and
ARMING is entered for its show with its start LT recorded and page 1 read. Where no pair qualifies, the flag is clear or the
clock is not LOCKED, the Show Controller stays as it is. Here the flash is at rest. The order of the blocks at the instant is
the model's (log 11). -/
def Obligations.QuorumJoins : Prop :=
  ∀ s : State, s.phase = .running → 0 ≤ ltDiff s.ltu.lt s.ltu.nextControl → s.ctl.state = .idle → NoShow s →
    PeersHeld s → s.flash.queue = [] → s.flash.portBusy = false → (∀ i : Fin 16, s.flash.slots[i] = .free) →
    s.flash.slotFreed = false → s.flash.heldNow = [] →
    let voter := fun (n : Nat) (start : LineTime) (p : PeerRecord) =>
      p.age ≤ 1000 ∧ p.syncGroup = s.config.syncGroup ∧ p.showState = some .running ∧ p.clockState = some .locked ∧
        p.showNumber = some n ∧ p.startLt = start
    let votes := fun (n : Nat) (start : LineTime) => (s.peers.filter fun p => decide (voter n start p)).length
    let qualifies := fun (n : Nat) (start : LineTime) => 2 ≤ votes n start ∧ s.ctl.join ≠ some (n, start)
    let tests := s.config.autoJoin = true ∧ s.ltu.clock = .locked
    (∀ (n : Nat) (start : LineTime), tests → qualifies n start →
      (∀ k other, qualifies k other → votes k other ≤ votes n start) →
      (∀ k other, qualifies k other → votes k other = votes n start →
        ∃ p ∈ s.peers, voter n start p ∧ ∀ q ∈ s.peers, voter k other q → p.station ≤ q.station) →
      ∃ t, exec .controlInstant s = .next t ∧
        t.ctl = { s.ctl with
          state := .arming, number := some n, startLt := some start, armStep := 1, join := some (n, start) } ∧
        t.jets.causes.ending = false ∧ t.ctx = restContexts s.ltu.lt ∧
        t.flash.queue = [{ page := 1, purpose := .directory, kind := .demand, stream := none, state := .loading,
                           discard := false, slot := 0 }]) ∧
    (¬tests ∨ (∀ n start, ¬qualifies n start) →
      ∃ t, exec .controlInstant s = .next t ∧ t.ctl = s.ctl ∧ t.flash = s.flash ∧ t.peers = s.peers)

/-! ### Peers, pumps, sensors and interlocks -/

/-- PEER_REMOVAL (R27): a record whose age has reached 20,001 ms leaves the table and every view, and nothing else
changes: no counter and no fault source. A beacon of the station taken after the removal leaves the table as one taken
before it does, which refreshes the record, and then no removal follows. -/
def Obligations.SilentPeerIsRemoved : Prop :=
  ∀ (s : State) (p : PeerRecord), PeersHeld s → p ∈ s.peers → p.age = 20001 →
    ∃ t, exec (.peerRemoval p.station) s = .next t ∧ t = { s with peers := t.peers } ∧
      t.peers.length + 1 = s.peers.length ∧ (∀ q ∈ t.peers, q.station ≠ p.station) ∧
      (∀ q ∈ s.peers, q ≠ p → q ∈ t.peers) ∧
      (∀ g, heardDemand g s.peers = heardDemand g t.peers + if p.feedGroup = g then p.request else 0) ∧
      (∀ g, peerWind g s.peers = max (peerWind g t.peers) (if p.windGroup = g then p.windHeld else 0)) ∧
      (∀ g, peerLevelLow g s.peers = (peerLevelLow g t.peers || (p.basinGroup == g && p.levelLow))) ∧
      ∀ fresh : PeerRecord, fresh.station = p.station → fresh.age = 0 →
        (takeBeacon fresh t).peers = (takeBeacon fresh s).peers ∧
        exec (.peerRemoval p.station) (takeBeacon fresh s) = .next (takeBeacon fresh s)

/-- The pumps' timed changes. PRIMING_START (R144, R146): a PARKED pump j enters PRIMING once the prime conditions hold and
the prime-ready timer shows 500 × j ms: RUN on, valve closed, its prime timer at 0, its speeds kept. PRIME_END (R144, R147,
R149): a PRIMING pump whose timer has reached T_PRIME is FAULTED with cause DRY at speed 0 if its manifold's pressure input is
READY and below P_MIN, the manifold's source latching; otherwise it is RUNNING with its valve open and its speeds kept. Here
no park cause is present. RUN_DOWN_END (R144, R146, R148): a PARKING pump whose run-down has passed is PARKED, RUN off and
valve closed, its speeds and timers 0; where the prime conditions hold and its stagger has passed it primes at once. No other
pump changes. That the run-down timer is 0 after the run-down is the model's choice (log 43). DRY_RUN_DETECTION (R149, R183):
at 2,000 ms the manifold's source latches, each of its PRIMING and RUNNING pumps is FAULTED with cause DRY at speed 0, and its
timer is stopped; every other pump is as it was. -/
def Obligations.PumpTimersEnd : Prop :=
  (∀ (s : State) (j : Jet) (ready : Nat), s.jets.pumps[j].state = .parked → runPermit s = true → noCause s = true →
    s.jets.primeReady = some ready → 500 * j.val ≤ ready →
    ∃ t, exec (.primingStart j) s = .next t ∧
      t = { s with jets := { s.jets with pumps := t.jets.pumps },
                   sensors := { s.sensors with dryA := t.sensors.dryA, dryB := t.sensors.dryB } } ∧
      t.jets.pumps = s.jets.pumps.set j { s.jets.pumps[j] with state := .priming, primeTimer := 0 } ∧
      runPin t j = true ∧ valvePin t j = false) ∧
  (∀ (s : State) (j : Jet), s.jets.pumps[j].state = .priming → s.config.tPrime ≤ s.jets.pumps[j].primeTimer →
    noCause s = true →
    ∃ t, exec (.primeEnd j) s = .next t ∧
      t = { s with jets := { s.jets with pumps := t.jets.pumps }, lamp := t.lamp, faults := t.faults,
                   sensors := { s.sensors with dryA := t.sensors.dryA, dryB := t.sensors.dryB } } ∧
      (∀ i : Jet, i ≠ j → t.jets.pumps[i] = s.jets.pumps[i]) ∧
      (healthOf (pressureInput (manifoldOf j)) s = .ready →
        (s.sensors.inputs.get (pressureInput (manifoldOf j))).scaled < s.config.pMin →
        t.jets.pumps[j].state = .faulted ∧ t.jets.pumps[j].dry = true ∧ t.jets.pumps[j].sOut = 0 ∧
        t.jets.pumps[j].primeTimer = 0 ∧ isLatched (drySource (manifoldOf j)) t = true ∧ runPin t j = false ∧
        valvePin t j = false ∧ t.lamp.speeds[j] = 0) ∧
      (healthOf (pressureInput (manifoldOf j)) s ≠ .ready ∨
          s.config.pMin ≤ (s.sensors.inputs.get (pressureInput (manifoldOf j))).scaled →
        t.jets.pumps[j] = { s.jets.pumps[j] with state := .running, primeTimer := 0 } ∧ t.faults = s.faults ∧
        t.lamp = s.lamp ∧ runPin t j = true ∧ valvePin t j = true)) ∧
  (∀ (s : State) (j : Jet), s.jets.pumps[j].state = .parking → s.config.runDown ≤ s.jets.pumps[j].runDownTimer →
    ∃ t, exec (.runDownEnd j) s = .next t ∧
      t = { s with jets := { s.jets with pumps := t.jets.pumps }, lamp := t.lamp,
                   sensors := { s.sensors with dryA := t.sensors.dryA, dryB := t.sensors.dryB } } ∧
      (∀ i : Jet, i ≠ j → t.jets.pumps[i] = s.jets.pumps[i]) ∧
      t.jets.pumps[j].state =
        (if runPermit s = true ∧ noCause s = true ∧ timerShows (500 * j.val) s.jets.primeReady = true then .priming
         else .parked) ∧
      valvePin t j = false ∧ t.jets.pumps[j].sReq = 0 ∧ t.jets.pumps[j].sB = 0 ∧ t.jets.pumps[j].sOut = 0 ∧
      t.jets.pumps[j].primeTimer = 0 ∧ t.jets.pumps[j].runDownTimer = 0 ∧ t.lamp.speeds[j] = 0) ∧
  ∀ (s : State) (m : Manifold) (shown : Nat), dryTimer m s = some shown → 2000 ≤ shown →
    ∃ t, exec (.dryRunDetection m) s = .next t ∧
      t = { s with jets := { s.jets with pumps := t.jets.pumps }, lamp := t.lamp, faults := t.faults,
                   sensors := { s.sensors with dryA := t.sensors.dryA, dryB := t.sensors.dryB } } ∧
      isLatched (drySource m) t = true ∧ dryTimer m t = none ∧
      ∀ j : Jet,
        (manifoldOf j = m → s.jets.pumps[j].state = .priming ∨ s.jets.pumps[j].state = .running →
          t.jets.pumps[j].state = .faulted ∧ t.jets.pumps[j].dry = true ∧ t.jets.pumps[j].sOut = 0 ∧
          t.lamp.speeds[j] = 0) ∧
        (manifoldOf j ≠ m ∨ (s.jets.pumps[j].state ≠ .priming ∧ s.jets.pumps[j].state ≠ .running) →
          t.jets.pumps[j] = s.jets.pumps[j])

/-- The wind filter (R178): at a sample of the wind input while it is READY, w_f moves by trunc((w - w_f) / 8) toward the
scaled value w, never past it, and rests within 7 of it; w_f stays in 0 to 600. -/
def Obligations.WindFilterMoves : Prop :=
  ∀ (s : State) (raw : BitVec 12), SensorsHeld s → s.phase = .running → s.sensors.due.wind = true →
    s.sensors.inputs.wind.health = .ready → (sampledRecord 600 s.config.scaling[0] raw s.sensors.inputs.wind).health = .ready →
    ∃ t, exec (.sensorSample .wind raw) s = .next t ∧
      let w := t.sensors.inputs.wind.scaled
      (t.sensors.filtered : Int) = s.sensors.filtered + Int.tdiv ((w : Int) - s.sensors.filtered) 8 ∧
      t.sensors.filtered ≤ 600 ∧
      (s.sensors.filtered ≤ w → s.sensors.filtered ≤ t.sensors.filtered ∧ t.sensors.filtered ≤ w) ∧
      (w ≤ s.sensors.filtered → w ≤ t.sensors.filtered ∧ t.sensors.filtered ≤ s.sensors.filtered) ∧
      (w ≤ s.sensors.filtered + 7 → s.sensors.filtered ≤ w + 7 → t.sensors.filtered = s.sensors.filtered)

/-- The sensors' times. SENSOR_SAMPLE (R175, R176): the raw value is scaled as offset + trunc(gain × raw / 4,096), clamped to
the input's range; the run counts count, holding at 10; a bad run of 10 puts a READY input in FAILED and latches its source,
a good run of 10 brings a FAILED input back; in warm-up the health stays. Other inputs, the pumps and the show are untouched.
WARM_UP_END (R176): every NOT_READY input is FAILED if its bad-run count is 10, its source latching, and READY otherwise.
SECOND_BOUNDARY (R179): the bin that has been current longest ago becomes current and takes w_f; the other nine bins keep
their values, and the held wind is the greatest of the ten. Neither changes anything else. The marks of a due sample and of
a due second boundary are the model's form (log 4). -/
def Obligations.SensorTimes : Prop :=
  (∀ (i : AnalogInput) (raw : BitVec 12) (s : State), s.phase = .running → s.sensors.due.get i = true →
    ∃ t, exec (.sensorSample i raw) s = .next t ∧ t = { s with sensors := t.sensors, faults := t.faults } ∧
      let before := s.sensors.inputs.get i
      let after := t.sensors.inputs.get i
      let top : Int := match i with
        | .wind => 600
        | _ => 1000
      let k := scalingOf i s.config
      after.raw = raw ∧ (after.scaled : Int) = max 0 (min top (k.offset + k.gain * raw.toNat / 4096)) ∧
      (raw = 0#12 ∨ raw = 4095#12 → after.bad = min (before.bad + 1) 10 ∧ after.good = 0) ∧
      (raw ≠ 0#12 → raw ≠ 4095#12 → after.good = min (before.good + 1) 10 ∧ after.bad = 0) ∧
      (before.health = .notReady → after.health = .notReady) ∧
      (before.health = .ready → after.health = if after.bad = 10 then .failed else .ready) ∧
      (before.health = .failed → after.health = if after.good = 10 then .ready else .failed) ∧
      (before.health = .ready → after.health = .failed → isLatched (sensorSource i) t = true) ∧
      (∀ x, x ≠ i → t.sensors.inputs.get x = s.sensors.inputs.get x) ∧ t.sensors.due.get i = false) ∧
  (∀ s : State, s.sensors.warmUp = some 0 →
    ∃ t, exec .warmUpEnd s = .next t ∧ t = { s with sensors := t.sensors, faults := t.faults } ∧
      t.sensors = { s.sensors with inputs := t.sensors.inputs, warmUp := none } ∧
      ∀ i : AnalogInput,
        t.sensors.inputs.get i = { s.sensors.inputs.get i with health := healthOf i t } ∧
        (healthOf i s = .notReady → (s.sensors.inputs.get i).bad = 10 →
          healthOf i t = .failed ∧ isLatched (sensorSource i) t = true) ∧
        (healthOf i s = .notReady → (s.sensors.inputs.get i).bad ≠ 10 → healthOf i t = .ready) ∧
        (healthOf i s ≠ .notReady → healthOf i t = healthOf i s)) ∧
  ∀ s : State, s.sensors.secondDue = true →
    ∃ t, exec .secondBoundary s = .next t ∧
      t = { s with sensors := { s.sensors with
              secondDue := false, currentBin := s.sensors.currentBin + 1, bins := t.sensors.bins } } ∧
      t.sensors.bins[s.sensors.currentBin + 1] = s.sensors.filtered ∧
      (∀ i : Fin 10, i ≠ s.sensors.currentBin + 1 → t.sensors.bins[i] = s.sensors.bins[i]) ∧
      (∀ i : Fin 10, t.sensors.bins[i] ≤ heldWind t) ∧ ∃ i : Fin 10, heldWind t = t.sensors.bins[i]

/-- What a SENSOR_SAMPLE of the level input and of a pressure input sets in motion (R177, R181, R183). Level, READY before and
after, v its scaled value: with LEVEL_LOW clear, below L_LOW the low timer runs and at 2,000 ms LEVEL_LOW is set and
LEVEL_LOW_SEEN latches; at or above it the timer stops. With LEVEL_LOW set, from L_LOW + L_HYST on the high timer runs and at
60,000 ms LEVEL_LOW is cleared; below it the timer stops. Not READY, the flag stays and both timers stop. Pressure, READY
before and after: the manifold's dry timer runs while the pressure is below P_MIN and one of its pumps is RUNNING at 300 ‰ or
more, and stops otherwise; not READY, it stops. That the sample which makes an input READY does not yet count is the model's
reading of R177 (log 29), and the due marks are its form (log 4). -/
def Obligations.LevelAndPressureJudged : Prop :=
  (∀ (raw : BitVec 12) (s : State), s.phase = .running → s.sensors.due.level = true →
    ∃ t, exec (.sensorSample .level raw) s = .next t ∧
      let m := s.sensors
      let n := t.sensors
      let v := n.inputs.level.scaled
      let ready := m.inputs.level.health = .ready ∧ n.inputs.level.health = .ready
      let low := s.config.lLow
      let high := s.config.lLow + s.config.lHyst
      (¬ready → n.levelLow = m.levelLow ∧ n.lowTimer = none ∧ n.highTimer = none) ∧
      (ready → m.levelLow = false → low ≤ v → n.levelLow = false ∧ n.lowTimer = none ∧ n.highTimer = m.highTimer) ∧
      (ready → m.levelLow = false → v < low → m.lowTimer.getD 0 < 2000 →
        n.levelLow = false ∧ n.lowTimer = some (m.lowTimer.getD 0) ∧ n.highTimer = m.highTimer) ∧
      (ready → m.levelLow = false → v < low → 2000 ≤ m.lowTimer.getD 0 →
        n.levelLow = true ∧ n.lowTimer = none ∧ n.highTimer = m.highTimer ∧ isLatched .levelLowSeen t = true) ∧
      (ready → m.levelLow = true → v < high → n.levelLow = true ∧ n.highTimer = none ∧ n.lowTimer = m.lowTimer) ∧
      (ready → m.levelLow = true → high ≤ v → m.highTimer.getD 0 < 60000 →
        n.levelLow = true ∧ n.highTimer = some (m.highTimer.getD 0) ∧ n.lowTimer = m.lowTimer) ∧
      (ready → m.levelLow = true → high ≤ v → 60000 ≤ m.highTimer.getD 0 →
        n.levelLow = false ∧ n.highTimer = none ∧ n.lowTimer = m.lowTimer)) ∧
  ∀ (m : Manifold) (raw : BitVec 12) (s : State), s.phase = .running → s.sensors.due.get (pressureInput m) = true →
    ∃ t, exec (.sensorSample (pressureInput m) raw) s = .next t ∧
      let ready := healthOf (pressureInput m) s = .ready ∧ healthOf (pressureInput m) t = .ready
      let dry := (t.sensors.inputs.get (pressureInput m)).scaled < s.config.pMin ∧
        ∃ j : Jet, (m = .a ↔ j.val < 6) ∧ s.jets.pumps[j].state = .running ∧ 300 ≤ s.jets.pumps[j].sOut
      (ready → dry → dryTimer m t = some ((dryTimer m s).getD 0)) ∧ (¬(ready ∧ dry) → dryTimer m t = none) ∧
      ∀ x, x ≠ m → dryTimer x t = dryTimer x s

/-- ESTOP (R113, R160, R184, R185), its qualified state due to change. Becoming ASSERTED with the trip clear sets the trip,
latches the source and enters SAFE: no show is held, RUN off and valves closed, every enabled light at SAFE_LIGHT, the audio
zero; line time and peers stay. With the trip set it changes nothing but the qualified state, and so does its release. The
due mark is the model's form (log 16). -/
def Obligations.EstopEntersSafe : Prop :=
  ∀ s : State, s.phase = .running → s.locks.due[0] = true →
    (s.locks.estop = false → s.locks.estopTrip = false →
      ∃ t, exec .estopAsserted s = .next t ∧ t.ctl.state = .safe ∧
        t.locks = { s.locks with estop := true, estopTrip := true, due := s.locks.due.set 0 false } ∧
        isLatched .estop t = true ∧ NoShow t ∧
        (∀ j : Jet, runPin t j = false ∧ valvePin t j = false ∧ (StoppedHeld s → speedPin t j = 0)) ∧
        (∀ i : Jet, s.config.lights[i].enable = true → t.lamp.slots[i] = safeColour s) ∧
        t.audio.left = 0#16 ∧ t.audio.right = 0#16 ∧ t.ltu = s.ltu ∧ t.peers = s.peers ∧ t.line = s.line ∧
        t.config = s.config ∧ t.ctl.refusal = s.ctl.refusal) ∧
    (s.locks.estop = false → s.locks.estopTrip = true →
      exec .estopAsserted s = .next { s with locks := { s.locks with estop := true, due := s.locks.due.set 0 false } }) ∧
    (s.locks.estop = true →
      exec .estopReleased s = .next { s with locks := { s.locks with estop := false, due := s.locks.due.set 0 false } })

/-- The AUX and DRIVE_FAULT trips (R145, R148, R149, R154, R155, R184, R186, R187), the input's qualified state due to change.
AUX becoming ASSERTED with the trip clear begins the trip: the source latches, the AUX cause is present and no pump stays
PRIMING or RUNNING; the show, its lights' contexts and its audio go on. AUX becoming RELEASED ends a following trip and clears
the cause, the source staying; a latching trip stays. DRIVE_FAULT j of an enabled jet becoming ASSERTED with trip j absent
sets bit j of the mask and the source, and pump j is FAULTED with cause DRIVE at speed 0, no other pump changing; becoming
RELEASED it ends a following trip and releases no pump; a latching trip stays. The input of a DISABLED pump is not judged. The
due mark is the model's form (log 16). -/
def Obligations.TripsPark : Prop :=
  (∀ s : State, s.phase = .running → s.locks.due[1] = true →
    let due := s.locks.due.set 1 false
    (s.locks.aux = false → s.locks.auxTrip = false →
      ∃ t, exec .auxAsserted s = .next t ∧ t.locks = { s.locks with aux := true, auxTrip := true, due := due } ∧
        isLatched .aux t = true ∧ t.jets.causes = { s.jets.causes with aux := true } ∧ t.jets.primeReady = none ∧
        (∀ j : Jet, t.jets.pumps[j].state ≠ .priming ∧ t.jets.pumps[j].state ≠ .running ∧
          (s.jets.pumps[j].state ≠ .priming → s.jets.pumps[j].state ≠ .running → t.jets.pumps[j] = s.jets.pumps[j])) ∧
        t.ctl = s.ctl ∧ t.ctx = s.ctx ∧ t.flash = s.flash ∧ t.audio = s.audio ∧ t.cues = s.cues ∧ t.ltu = s.ltu) ∧
    (s.locks.aux = false → s.locks.auxTrip = true →
      exec .auxAsserted s = .next { s with locks := { s.locks with aux := true, due := due } }) ∧
    (s.locks.aux = true → s.locks.auxTrip = true → s.config.latching.getLsbD 1 = false →
      ∃ t, exec .auxReleased s = .next t ∧ t.locks = { s.locks with aux := false, auxTrip := false, due := due } ∧
        t.jets.causes = { s.jets.causes with aux := false } ∧ t.faults = s.faults ∧ t.ctl = s.ctl ∧ t.flash = s.flash ∧
        t.ctx = s.ctx ∧ t.ltu = s.ltu) ∧
    (s.locks.aux = true → s.config.latching.getLsbD 1 = true ∨ s.locks.auxTrip = false →
      exec .auxReleased s = .next { s with locks := { s.locks with aux := false, due := due } })) ∧
  ∀ (s : State) (j : Jet), s.phase = .running →
    (s.jets.pumps[j].state = .disabled →
      exec (.driveFaultAsserted j) s = .next s ∧ exec (.driveFaultReleased j) s = .next s) ∧
    (s.jets.pumps[j].state ≠ .disabled → s.locks.due[driveInput j] = true →
      let due := s.locks.due.set (driveInput j) false
      (s.locks.drive[j] = false → s.locks.driveTrips[j] = false →
        ∃ t, exec (.driveFaultAsserted j) s = .next t ∧
          t = { s with locks := { s.locks with
                         drive := s.locks.drive.set j true, driveTrips := s.locks.driveTrips.set j true, due := due },
                       faults := t.faults, jets := { s.jets with pumps := t.jets.pumps }, lamp := t.lamp,
                       sensors := { s.sensors with dryA := t.sensors.dryA, dryB := t.sensors.dryB } } ∧
          isLatched .driveFault t = true ∧ t.faults.pumpMask.getLsbD j.val = true ∧
          t.jets.pumps[j].state = .faulted ∧ t.jets.pumps[j].drive = true ∧ t.jets.pumps[j].sOut = 0 ∧
          t.jets.pumps[j].dry = s.jets.pumps[j].dry ∧ ∀ i : Jet, i ≠ j → t.jets.pumps[i] = s.jets.pumps[i]) ∧
      (s.locks.drive[j] = false → s.locks.driveTrips[j] = true →
        exec (.driveFaultAsserted j) s =
          .next { s with locks := { s.locks with drive := s.locks.drive.set j true, due := due } }) ∧
      (s.locks.drive[j] = true →
        exec (.driveFaultReleased j) s = .next { s with
          locks := { s.locks with
            drive := s.locks.drive.set j false
            due := due
            driveTrips := if s.config.latching.getLsbD (2 + j.val) then s.locks.driveTrips
              else s.locks.driveTrips.set j false } }))

/-! ### The flash engine and the show -/

/-- A read on the port (R73, R74, R75, R76, R83). FLASH_READY: the entry in LOADING enters TRANSFER and the timer stops.
FLASH_TIMEOUT at 5 ms: four FAILED sectors are counted in ECC_FAILED, and the source FLASH_TIMEOUT latches unless the entry is
discarded; line time, peers and the Line Port are untouched. The entry in LOADING retires; shown for an AUDIO read that is the
only entry, of a page the reader is not on, with no demand pending: the queue is empty, the port free, and the slot is FREE
if the entry is discarded, and otherwise FILLED with four FAILED sectors and a page of no data, which is the model's choice (log
10). -/
def Obligations.ReadGoesOn : Prop :=
  ∀ (s : State) (e : QueueEntry), FlashHeld s → e ∈ s.flash.queue → e.state = .loading →
    (∃ t, exec .flashReady s = .next t ∧
      t = { s with flash := { s.flash with queue := t.flash.queue, timer := none } } ∧
      t.flash.queue = s.flash.queue.map fun x => if x = e then { e with state := .transfer } else x) ∧
    ∀ shown, s.flash.timer = some shown → 5 ≤ shown →
      ∃ t, exec .flashTimeout s = .next t ∧ t.counters.eccFailed = min (s.counters.eccFailed + 4) 65535 ∧
        t.counters.eccCorrected = min s.counters.eccCorrected 65535 ∧
        isLatched .flashTimeout t = (isLatched .flashTimeout s || !e.discard) ∧ t.ltu.lt = s.ltu.lt ∧
        t.peers = s.peers ∧ t.line = s.line ∧
        (s.flash.queue = [e] → e.purpose = .audio → e.stream = some .audio →
          (s.flash.audio.page.map fun p => p.flashPage) ≠ some e.page → s.ctl.state ≠ .arming →
          s.flash.audio.pendingDemand = none → s.flash.cue.pendingDemand = none → s.flash.armDemand = none →
          s.flash.indexDemands = [] →
          (∀ p, s.flash.audio.page = some p → findSlot (Slot.isFilledFor .audio p.flashPage) s.flash = none) →
          t.flash.queue = [] ∧ t.flash.portBusy = false ∧ t.flash.timer = none ∧ t.ctl = s.ctl ∧ t.audio = s.audio ∧
          (∀ i : Fin 16, i ≠ e.slot → t.flash.slots[i] = s.flash.slots[i]) ∧
          t.flash.slots[e.slot] =
            if e.discard then .free
            else .filled e.page (some .audio) { data := [], verdicts := ⟨.failed, .failed, .failed, .failed⟩ }
              (e.kind == .prefetch))

/-- RETIREMENT of an AUDIO read, the only entry, no demand pending. While the show plays (R75, R76, R78, R168) its verdicts
are counted; its slot is FILLED for the AUDIO stream, with the prefetch mark of its kind, or IN_USE and opened where the
reader is on the page: silenced whole where sector 0 FAILED or its identity is another's, which latches PAGE_ID, and
otherwise in its FAILED sectors; a FAILED sector latches ECC_FAIL. A discarded read's slot is FREE. In the last step of ARMING
(R86, R99, R103) ARMED is entered as soon as the four pages after the start page are held, and the pending start is tested
there: not yet reached, the state is ARMED; at q from 0 to 479, RUNNING; at or above the show length, refused. The page
comes as an operand (log 10). -/
def Obligations.AudioPageRetires : Prop :=
  ∀ (s : State) (e : QueueEntry) (d : ShowDescription) (page : Vector Byte pageBytes) (v : Verdicts),
    s.flash.queue = [e] → e.state = .transfer → e.purpose = .audio → e.stream = some .audio →
    s.flash.description = some d → s.flash.audio.pendingDemand = none →
    s.flash.cue.pendingDemand = none → s.flash.armDemand = none → s.flash.indexDemands = [] → s.flash.heldNow = [] →
    (∀ i : Fin 16, (s.flash.slots[i]).isFilled e.page = false) →
    (∀ p, s.flash.audio.page = some p → findSlot (Slot.isFilledFor .audio p.flashPage) s.flash = none) →
    let content : PageContent := { data := page.toList, verdicts := v }
    ∃ t, exec (.retirement page v) s = .next t ∧
      (s.ctl.state = .running ∨ s.ctl.state = .ending →
        t.flash.queue = [] ∧ t.flash.portBusy = false ∧ t.flash.timer = none ∧
        t.counters = { s.counters with
          eccCorrected := min (s.counters.eccCorrected + sectorsWith .corrected v) 65535
          eccFailed := min (s.counters.eccFailed + sectorsWith .failed v) 65535 } ∧
        (∀ i : Fin 16, i ≠ e.slot → t.flash.slots[i] = s.flash.slots[i]) ∧ t.ctl = s.ctl ∧ t.ltu = s.ltu ∧
        (e.discard = true → t.flash.slots[e.slot] = .free ∧ t.faults = s.faults) ∧
        (e.discard = false → (s.flash.audio.page.map fun p => p.flashPage) ≠ some e.page →
          t.flash.slots[e.slot] = .filled e.page (some .audio) content (e.kind == .prefetch) ∧
          t.faults = s.faults ∧ t.audio = s.audio) ∧
        ∀ p, e.discard = false → s.flash.audio.page = some p → p.flashPage = e.page →
          let named := byteAt page.toList 0 = d.number ∧ field16 page.toList 1 = p.segment ∧ byteAt page.toList 3 = p.index
          let bad := fun x : Verdict => decide (x = .failed)
          t.flash.slots[e.slot] = .inUse e.page (some .audio) content (e.kind == .prefetch) ∧
          t.audio = { s.audio with opening := t.audio.opening } ∧
          (v.sector0 = .failed ∨ ¬named → t.audio.opening = some ⟨true, true, true, true⟩) ∧
          (v.sector0 ≠ .failed → named →
            t.audio.opening = some ⟨false, bad v.sector1, bad v.sector2, bad v.sector3⟩) ∧
          ∀ f : FaultSource, isLatched f t = (isLatched f s ||
            (f == .eccFail && (bad v.sector0 || bad v.sector1 || bad v.sector2 || bad v.sector3)) ||
            (f == .pageId && !bad v.sector0 && decide (¬named)))) ∧
      ∀ p, s.ctl.state = .arming → s.ctl.armStep = 6 → s.flash.audio.page = some p → e.discard = false →
        p.flashPage ≠ e.page →
        let held := ∀ k, k < 4 →
          e.page = p.flashPage + 1 + k ∨ ∃ i : Fin 16, i ≠ e.slot ∧ (s.flash.slots[i]).holds (p.flashPage + 1 + k) = true
        (¬held → t.ctl = s.ctl) ∧ (held → s.ctl.startLt = none → t.ctl = { s.ctl with state := .armed }) ∧
        ∀ start, held → s.ctl.startLt = some start →
          let q := ltDiff s.ltu.lt start
          (q < 0 → t.ctl = { s.ctl with state := .armed }) ∧
          (0 ≤ q → q < 480 → q < d.segments * 48000 → t.ctl = { s.ctl with state := .running }) ∧
          (0 ≤ q → d.segments * 48000 ≤ q →
            t.ctl = { s.ctl with state := .armed, startLt := none, refusal := some (.start, .armed) } ∧
            t.counters.refused = bump s.counters.refused)

/-- RETIREMENT of the DIRECTORY and the HEADER read of ARMING (R57 to R60, R76, R103, R104), the only entry, no page in another
slot. A usable directory entry, its sector not FAILED, its valid bit set and its page in range, moves ARMING to step 2 with
the header page read; an accepted header, of the right magic, show, format, CRC-16, segment count, index pages and first
index page, is held as the show description and moves it to step 3, with index page 0 looked up and read. Anything else is an
arming failure: ARM_FAIL latches, and teardown leaves IDLE with no show. The page comes as an operand (log 10). -/
def Obligations.ArmingReadsRetire : Prop :=
  ∀ (s : State) (e : QueueEntry) (n : Nat) (page : Vector Byte pageBytes) (v : Verdicts),
    s.ctl.state = .arming → s.ctl.number = some n → s.flash.queue = [e] →
    e.state = .transfer → e.stream = none → e.discard = false → s.flash.portBusy = true →
    (∀ i : Fin 16, i ≠ e.slot → s.flash.slots[i] = .free) → s.flash.audio = StreamRecord.off →
    s.flash.cue = StreamRecord.off → s.flash.cache = [] → s.flash.lookups = [] → s.flash.indexDemands = [] →
    s.flash.armDemand = none → s.flash.heldNow = [] →
    let b := page.toList
    let pageOfEntry := field24 b (8 * n)
    let usable := v.sector0 ≠ .failed ∧ bitAt b (8 * n + 3) 0 = true ∧ 2 ≤ pageOfEntry ∧ pageOfEntry ≤ 262143
    let segments := field16 b 4
    let first := field24 b 8
    let accepted := v.sector0 ≠ .failed ∧ field16 b 0 = 0x5654 ∧ byteAt b 2 = n ∧ byteAt b 3 = 1 ∧
      (crc16 (b.take 30)).toNat = field16 b 30 ∧ 1 ≤ segments ∧ segments ≤ 1800 ∧ byteAt b 6 = (segments + 127) / 128 ∧
      2 ≤ first ∧ first ≤ 262143 ∧ first + byteAt b 6 - 1 ≤ 262143
    let reading := fun (t : State) (p : Nat) (purpose : Purpose) =>
      t.flash.queue = [{ page := p, purpose := purpose, kind := .demand, stream := none, state := .loading,
                         discard := false, slot := 0 }] ∧
      t.flash.portBusy = true ∧ t.flash.timer = some 0 ∧ t.flash.slots[0] = .reserved p none ∧
      (∀ i : Fin 16, i ≠ 0 → t.flash.slots[i] = .free) ∧ t.jets = s.jets ∧ t.faults = s.faults ∧ t.ctx = s.ctx
    let failed := fun t : State =>
      t.ctl = { s.ctl with state := .idle, number := none, startLt := none, fadeEnd := none } ∧ NoShow t ∧
      t.ctx = restContexts s.ltu.lt ∧ t.flash.queue = [] ∧ t.flash.portBusy = false ∧
      ∀ f : FaultSource, isLatched f t = (isLatched f s || f == .armFail)
    ∃ t, exec (.retirement page v) s = .next t ∧ t.ltu = s.ltu ∧ t.peers = s.peers ∧
      (e.purpose = .directory → usable →
        t.ctl = { s.ctl with armStep := 2 } ∧ t.flash.description = s.flash.description ∧ reading t pageOfEntry .header) ∧
      (e.purpose = .directory → ¬usable → failed t) ∧
      (e.purpose = .header → accepted →
        t.ctl = { s.ctl with armStep := 3 } ∧
        t.flash.description =
          some { number := n, segments := segments, indexPages := byteAt b 6, firstIndex := first } ∧
        t.flash.lookups = [{ who := .arming, segment := 0, use := .arming }] ∧ reading t first .index) ∧
      (e.purpose = .header → ¬accepted → failed t)

/-- RETIREMENT of an INDEX read, the only entry, no demand pending (R63, R65 to R69, R85, R100, R103, R104, R109). Index page
0 in ARMING with a good entry for segment 0, and for segment 1 where there is one: both streams start, the AUDIO reader's page
is the segment's first and it and the four after it are the first reads queued, the run permit is given and the prime-ready
timer starts; with a bad entry the arming fails, no pump having primed. A page FAILED for the first time is read again, and
for the second time fails the arming; while RUNNING the second failure of a page, awaited or prefetched, latches INDEX_FAIL
and enters ENDING with fade 300, and so does a bad entry that a waiting lookup finds. An entry is good when its fields, from
the bytes of 12.3, lie in the ranges of R63. An index page prefetched while RUNNING is held, the earliest arrival of four
making way, and its failure mark goes. The page comes as an operand (log 10). -/
def Obligations.IndexPageRetires : Prop :=
  ∀ (s : State) (e : QueueEntry) (d : ShowDescription) (k : Nat) (page : Vector Byte pageBytes) (v : Verdicts),
    s.flash.queue = [e] → e.state = .transfer → e.purpose = .index → e.stream = none →
    e.discard = false → e.page = d.firstIndex + k → s.flash.portBusy = true → s.flash.description = some d →
    s.flash.audio.pendingDemand = none → s.flash.cue.pendingDemand = none → s.flash.armDemand = none →
    s.flash.heldNow = [] → s.flash.indexDemands = [] →
    (∀ i : Fin 16, (s.flash.slots[i]).isFilled e.page = false) →
    let good := v.sector0 ≠ .failed ∧ v.sector1 ≠ .failed ∧ v.sector2 ≠ .failed ∧ v.sector3 ≠ .failed
    let entry := fun n : Nat =>
      let r := (page.toList.drop (16 * n)).take 16
      ({ firstAudio := field24 r 0, firstCuePage := field24 r 3, firstCueRecord := byteAt r 6, keyPresent := bitAt r 7 0,
         last := bitAt r 7 1, cueCount := field16 r 8 } : IndexEntry)
    let goodEntry := fun (n : Nat) (x : IndexEntry) =>
      2 ≤ x.firstAudio ∧ x.firstAudio ≤ 262048 ∧ x.firstCueRecord ≤ 127 ∧ (x.last = true ↔ n + 1 = d.segments) ∧
      (x.cueCount = 0 ∨ (2 ≤ x.firstCuePage ∧ x.firstCuePage ≤ 262143 ∧
        x.firstCuePage + (x.firstCueRecord + x.cueCount - 1) / 128 ≤ 262143))
    let first := entry 0
    let marked := k ∈ s.flash.failMarks
    let again := fun (t : State) (kind : RequestKind) =>
      t.ctl = s.ctl ∧ t.flash.failMarks = s.flash.failMarks ++ [k] ∧ t.flash.lookups = s.flash.lookups ∧
      ∃ i : Fin 16, t.flash.queue = [{ page := e.page, purpose := .index, kind := kind, stream := none, state := .loading,
                                       discard := false, slot := i }]
    let armingFailed := fun t : State =>
      t.ctl = { s.ctl with state := .idle, number := none, startLt := none, fadeEnd := none, armStep := t.ctl.armStep } ∧
      NoShow t ∧ isLatched .armFail t = true ∧ isLatched .indexFail t = isLatched .indexFail s ∧
      ((∀ j : Jet, s.jets.pumps[j].state ≠ .priming ∧ s.jets.pumps[j].state ≠ .running) → t.jets.pumps = s.jets.pumps)
    let ended := fun t : State =>
      isLatched .indexFail t = true ∧ t.flash.lookups = [] ∧ t.flash.cue.on = false ∧ t.cues.entries = [] ∧
      ((∃ l ∈ s.flash.lookups, l.who = .stream .audio) → t.flash.audio.stopped = true) ∧
      t.ctl = { s.ctl with state := .ending, fadeEnd := some (s.ltu.lt + 144000#32) } ∧
      t.ctx = fadeContexts s.ltu.lt (s.ltu.lt + 144000#32) s.ctx
    ∃ t, exec (.retirement page v) s = .next t ∧ t.ltu = s.ltu ∧ t.peers = s.peers ∧
      (s.ctl.state = .arming → s.ctl.armStep = 3 → k = 0 → s.flash.cache = [] → 1 ≤ d.segments →
        s.flash.lookups = [{ who := .arming, segment := 0, use := .arming }] →
        (∀ i : Fin 16, i ≠ e.slot → s.flash.slots[i] = .free) → s.flash.audio = StreamRecord.off →
        s.flash.cue = StreamRecord.off → s.jets.primeReady = none →
        (good → goodEntry 0 first → 1 ≤ first.cueCount →
          d.segments = 1 ∨ goodEntry 1 (entry 1) →
          t.ctl = { s.ctl with armStep := 6 } ∧ t.faults = s.faults ∧ t.flash.audio.on = true ∧ t.flash.cue.on = true ∧
          t.flash.audio.current = some ⟨0, first⟩ ∧ t.flash.cue.current = some ⟨0, first⟩ ∧
          t.flash.audio.page = some ⟨0, 0, first.firstAudio⟩ ∧ t.flash.cue.page = some ⟨0, 0, first.firstCuePage⟩ ∧
          (t.flash.queue.map fun x => x.page).take 5 = (List.range 5).map (fun i => first.firstAudio + i) ∧
          t.jets.primeReady = (if noCause s = true then some 0 else none)) ∧
        (good → ¬goodEntry 0 first → armingFailed t) ∧
        (¬good → ¬marked → again t .demand) ∧ (¬good → marked → armingFailed t)) ∧
      (s.ctl.state = .running → s.flash.lookups = [] →
        (good → t.ctl = s.ctl ∧ t.flash.queue = [] ∧ t.flash.failMarks = s.flash.failMarks.filter (fun i => i != k) ∧
          t.flash.lookups = [] ∧
          t.flash.cache = (if s.flash.cache.length < 4 then s.flash.cache else s.flash.cache.drop 1) ++
            [{ number := k, entries := (List.range 128).map entry }]) ∧
        (¬good → ¬marked → again t .prefetch) ∧
        (¬good → marked → ended t ∧ t.flash.queue = [])) ∧
      (∀ (x : StreamId) (l : Lookup), s.ctl.state = .running → s.flash.lookups = [l] → l.who = .stream x →
        (streamOf x s.flash).on = true → l.segment / 128 = k → cachedPage k s.flash = none → good →
        ¬goodEntry l.segment (entry (l.segment % 128)) → ended t) ∧
      (s.ctl.state = .running → (∀ l ∈ s.flash.lookups, l.segment / 128 = k) → s.flash.lookups ≠ [] → ¬good →
        (¬marked → again t .demand) ∧ (marked → ended t ∧ t.flash.queue = []))

/-- RETIREMENT of a CUE read in RUNNING, the only entry, no demand or lookup pending (R76, R78, R83, R88, R91, R119): a
discarded read's slot is FREE; a page the reader is not on is FILLED; the reader's page is IN_USE with a good verdict. FAILED
for the first time it is asked for again; FAILED for the second time CUE_LOST latches, the reader leaves it and passes over
the rest of the segment: with no further segment it rests at its end, a next segment that begins in another page is entered
at its first record, and one that begins in the lost page is passed over too, by the record of the segment after it where its
index page is held and otherwise by a lookup that waits. Here the entries of the held index pages are good. The page comes as
an operand (log 10). -/
def Obligations.CuePageRetires : Prop :=
  ∀ (s : State) (e : QueueEntry) (d : ShowDescription) (page : Vector Byte pageBytes) (v : Verdicts),
    s.ctl.state = .running → s.flash.queue = [e] → e.state = .transfer → e.purpose = .cue → e.stream = some .cue →
    s.flash.portBusy = true → s.flash.description = some d → s.flash.cue.on = true → s.flash.reader.catchUp = none →
    s.flash.audio.pendingDemand = none → s.flash.cue.pendingDemand = none → s.flash.armDemand = none →
    s.flash.heldNow = [] → s.flash.indexDemands = [] → s.flash.lookups = [] → IndexSound d s → IndexUnfilled d s →
    (∀ i : Fin 16, (s.flash.slots[i]).holds e.page = false) →
    (∀ p, s.flash.cue.page = some p → findSlot (Slot.isFilledFor .cue p.flashPage) s.flash = none) →
    let content : PageContent := { data := page.toList, verdicts := v }
    let good := v.sector0 ≠ .failed ∧ v.sector1 ≠ .failed ∧ v.sector2 ≠ .failed ∧ v.sector3 ≠ .failed
    ∃ t, exec (.retirement page v) s = .next t ∧ t.ctl = s.ctl ∧ t.cues = s.cues ∧ t.ctx = s.ctx ∧
      t.audio = s.audio ∧ t.jets = s.jets ∧
      (e.discard = true → t.flash.slots[e.slot] = .free ∧ t.faults = s.faults ∧ t.flash.reader = s.flash.reader) ∧
      (e.discard = false → (s.flash.cue.page.map fun p => p.flashPage) ≠ some e.page →
        t.flash.slots[e.slot] = .filled e.page (some .cue) content (e.kind == .prefetch) ∧ t.faults = s.faults ∧
        t.flash.reader = s.flash.reader ∧ t.flash.queue = []) ∧
      ∀ (p : ReaderPage) (c : SegmentRecord), e.discard = false → s.flash.cue.page = some p → p.flashPage = e.page →
        s.flash.cue.current = some c →
        (good → t.flash.slots[e.slot] = .inUse e.page (some .cue) content (e.kind == .prefetch) ∧ t.faults = s.faults ∧
          t.flash.reader = s.flash.reader ∧ t.flash.cue = s.flash.cue ∧ t.flash.queue = []) ∧
        (¬good → s.flash.reader.retry = false →
          t.faults = s.faults ∧ t.flash.cue = s.flash.cue ∧ t.flash.reader = { s.flash.reader with retry := true } ∧
          ∃ i : Fin 16, t.flash.slots[i] = .reserved e.page (some .cue) ∧
            t.flash.queue = [{ page := e.page, purpose := .cue, kind := .demand, stream := some .cue, state := .loading,
                               discard := false, slot := i }]) ∧
        (¬good → s.flash.reader.retry = true →
          (∀ f : FaultSource, isLatched f t = (isLatched f s || f == .cueLost)) ∧
          (s.flash.cue.next = none → s.flash.cue.stopped = true →
            t.flash.cue = { s.flash.cue with page := none } ∧ t.flash.slots[e.slot] = .free ∧ t.flash.queue = [] ∧
            t.flash.reader = { s.flash.reader with readPoint := c.entry.cueCount, lostPage := some e.page }) ∧
          ∀ n : SegmentRecord, s.flash.cue.next = some n → 1 ≤ n.entry.cueCount →
            let held := cachedPage ((n.segment + 1) / 128) s.flash
            (n.entry.firstCuePage ≠ e.page →
              (∀ i : Fin 16, (s.flash.slots[i]).holds n.entry.firstCuePage = false) →
              t.flash.cue.current = some n ∧ t.flash.cue.page = some ⟨n.segment, 0, n.entry.firstCuePage⟩ ∧
              t.flash.reader = { readPoint := 0, retry := false, catchUp := none, lostPage := none }) ∧
            (n.entry.firstCuePage = e.page → n.segment + 1 < d.segments → s.flash.cue.stopped = false →
              (held = none →
                t.flash.cue.current = some n ∧ t.flash.cue.next = none ∧ t.flash.cue.page = none ∧
                t.flash.reader = { s.flash.reader with readPoint := n.entry.cueCount, lostPage := some e.page } ∧
                t.flash.lookups = [{ who := .stream .cue, segment := n.segment + 1, use := .crossing }]) ∧
              ∀ h, held = some h →
                let m := h.entryOf (n.segment + 1)
                1 ≤ m.cueCount → m.firstCuePage ≠ e.page →
                (∀ i : Fin 16, (s.flash.slots[i]).holds m.firstCuePage = false) →
                t.flash.cue.current = some ⟨n.segment + 1, m⟩ ∧
                t.flash.cue.page = some ⟨n.segment + 1, 0, m.firstCuePage⟩ ∧
                t.flash.reader = { readPoint := 0, retry := false, catchUp := none, lostPage := none }))

/-- TRACK_CUE_TAKEN (R66, R88, R91, R117, R118): the record at the read point joins the queue with source TRACK and due start
LT plus its show position, before the first entry whose due is after its own; an unknown kind is counted instead. The read
point moves to the next record: in the same page, in the next page of the segment's run, which becomes the reader's, or past
the run. There the reader enters the next segment whose record it holds, on the page it is on or at a new one; with no record
held and none to come it rests; and otherwise it looks the next segment up, enters it where the index page is held, and waits
where it is not. Here the entries of the held index pages are good, and a page newly taken, if held, has a good verdict; and
the lookups that wait are of segments of the show, as RequestInvariant says. -/
def Obligations.TrackCueJoinsQueue : Prop :=
  ∀ (s : State) (start : LineTime) (d : ShowDescription) (c : SegmentRecord) (p : ReaderPage) (record : List Byte),
    s.ctl.state = .running → s.ctl.startLt = some start → s.flash.reader.catchUp = none →
    s.flash.description = some d → IndexSound d s → IndexUnfilled d s →
    (∀ l ∈ s.flash.lookups, l.segment < d.segments) →
    recordAtReadPoint s.flash = some (c, record) → s.flash.cue.current = some c → s.flash.cue.page = some p →
    s.flash.cue.on = true → s.flash.reader.lostPage = none →
    s.cues.entries.length < 48 → (s.cues.entries.filter fun e => e.source == .track).length < 40 →
    s.flash.slotFreed = false → s.flash.heldNow = [] →
    let due := start + BitVec.ofNat 32 (field32 record 0)
    0 ≤ ltDiff (s.ltu.lt + 96000#32) due →
    let point := s.flash.reader.readPoint + 1
    let inRun := point < c.entry.cueCount
    let index := (c.entry.firstCueRecord + point) / 128
    let pageOk := fun page : Nat => ∀ (i : Fin 16) (content : PageContent),
      (s.flash.slots[i]).holds page = true → (s.flash.slots[i]).content = some content →
      pageGood content.verdicts = true
    let entered := fun (t : State) (n : SegmentRecord) =>
      t.flash.cue.current = some n ∧ t.flash.cue.page = some ⟨n.segment, 0, n.entry.firstCuePage⟩ ∧
      t.flash.reader = { s.flash.reader with readPoint := 0, retry := t.flash.reader.retry } ∧
      (n.entry.firstCuePage ≠ p.flashPage → t.flash.reader.retry = false ∧
        ∀ i : Fin 16, (t.flash.slots[i]).isInUseFor .cue p.flashPage = false)
    let rests := fun t : State =>
      t = { s with cues := t.cues, counters := t.counters,
                   flash := { s.flash with reader := { s.flash.reader with readPoint := point } } }
    (inRun → pageOk (c.entry.firstCuePage + index)) →
    (∀ n, s.flash.cue.next = some n → pageOk n.entry.firstCuePage) →
    (∀ h, cachedPage ((c.segment + 1) / 128) s.flash = some h → pageOk (h.entryOf (c.segment + 1)).firstCuePage) →
    ∃ t, exec .trackCueTaken s = .next t ∧ t.ctl = s.ctl ∧ t.ltu = s.ltu ∧ t.ctx = s.ctx ∧ t.jets = s.jets ∧
      (decodeKind record = none →
        t.cues = s.cues ∧ t.counters.cueMalformed = bump s.counters.cueMalformed) ∧
      (∀ kind, decodeKind record = some kind → t.counters.cueMalformed = s.counters.cueMalformed ∧
        ∃ e before after, t.cues.entries = before ++ e :: after ∧ s.cues.entries = before ++ after ∧
          e.source = .track ∧ e.due = due ∧ e.kind = kind ∧ e.ramp = min (field16 record 8) 6000 ∧
          e.mask = BitVec.ofNat 12 (field16 record 5) ∧
          (∀ q ∈ before, isAfter q.due due = false) ∧ ∀ q rest, after = q :: rest → isAfter q.due due = true) ∧
      (inRun → index = p.index → rests t) ∧
      (inRun → index ≠ p.index →
        t.flash.cue.current = some c ∧ t.flash.cue.page = some ⟨c.segment, index, c.entry.firstCuePage + index⟩ ∧
        t.flash.reader.readPoint = point ∧
        (index = p.index + 1 → p.flashPage = c.entry.firstCuePage + p.index →
          ∀ i : Fin 16, (t.flash.slots[i]).isInUseFor .cue p.flashPage = false)) ∧
      (∀ n, ¬inRun → s.flash.cue.next = some n → 1 ≤ n.entry.cueCount → entered t n) ∧
      (¬inRun → s.flash.cue.next = none → s.flash.cue.stopped = true → rests t) ∧
      (¬inRun → s.flash.cue.next = none → s.flash.cue.stopped = false → lookupWaits .cue s.flash = false →
        c.segment + 1 < d.segments →
        (cachedPage ((c.segment + 1) / 128) s.flash = none →
          t.flash.cue = s.flash.cue ∧ t.flash.reader = { s.flash.reader with readPoint := point } ∧
          t.flash.lookups = s.flash.lookups ++ [{ who := .stream .cue, segment := c.segment + 1, use := .crossing }]) ∧
        ∀ h, cachedPage ((c.segment + 1) / 128) s.flash = some h → 1 ≤ (h.entryOf (c.segment + 1)).cueCount →
          entered t ⟨c.segment + 1, h.entryOf (c.segment + 1)⟩)

/-- Catch-up (R64, R78, R100, R106): the CUE page at the head of the landing segment, the only entry, arrives good in RUNNING
with seek position q, and the reader works through the segment's records, here all in this page, none of unknown kind and no
index page wanted. The first m records, due at or before q, none an END, and those due at q KEY, are read: each KEY cue of a
segment with KEY_PRESENT acts at once as a TRACK cue with a ramp of 200 units, the others are skipped, and nothing is queued.
Catch-up ends before record m if that is due after q, or is due at q and neither KEY nor END; an END there due at or before
q, KEY or not, ends the show with its ramp as the fade; and with no record left the reader rests at the segment's end, here
without a further segment. A KEY cue sets the TRACK layer of each masked context of its kind from its value now, leaving the
LIVE layer. That an END acts where KEY_PRESENT is clear is the model's choice between R64 and R106 (log 42), and the page comes
as an operand (log 10). -/
def Obligations.CatchUpAppliesKeys : Prop :=
  (∀ (s : State) (e : QueueEntry) (d : ShowDescription) (page : Vector Byte pageBytes) (v : Verdicts) (c : SegmentRecord)
      (q : Int) (m : Nat),
    s.ctl.state = .running → s.flash.queue = [e] → e.state = .transfer → e.purpose = .cue → e.stream = some .cue →
    e.discard = false → s.flash.portBusy = true → s.flash.description = some d → s.flash.cue.on = true →
    s.flash.audio.pendingDemand = none → s.flash.cue.pendingDemand = none → s.flash.armDemand = none →
    s.flash.heldNow = [] → s.flash.indexDemands = [] → s.flash.lookups = [] →
    (∀ i : Fin 16, (s.flash.slots[i]).holds e.page = false) →
    s.flash.reader = { CueReader.cleared with catchUp := some q } → s.flash.cue.current = some c →
    s.flash.cue.page = some ⟨c.segment, 0, e.page⟩ → s.flash.cue.next = none → s.flash.cue.stopped = true →
    v.sector0 ≠ .failed ∧ v.sector1 ≠ .failed ∧ v.sector2 ≠ .failed ∧ v.sector3 ≠ .failed →
    1 ≤ c.entry.cueCount → c.entry.firstCueRecord + c.entry.cueCount ≤ 128 → m ≤ c.entry.cueCount →
    let record := fun n : Nat => (page.toList.drop (16 * (c.entry.firstCueRecord + n))).take 16
    let due := fun n : Nat => (field32 (record n) 0 : Int)
    let key := fun n : Nat => bitAt (record n) 4 7 && c.entry.keyPresent
    let ramp := fun n : Nat => min (field16 (record n) 8) 6000
    (∀ n, n < m → (due n < q ∨ (due n = q ∧ key n = true)) ∧ decodeKind (record n) ≠ none ∧
      decodeKind (record n) ≠ some .ending) →
    let ctx := (List.range m).foldl (fun x n =>
      if key n = true then
        match decodeKind (record n) with
        | some kind => applyCue .track kind (BitVec.ofNat 12 (field16 (record n) 5)) s.ltu.lt 200 x
        | none => x
      else x) s.ctx
    ∃ t, exec (.retirement page v) s = .next t ∧ t.ltu = s.ltu ∧ t.jets.pumps = s.jets.pumps ∧ t.counters.cueMalformed =
        s.counters.cueMalformed ∧
      (m < c.entry.cueCount → decodeKind (record m) ≠ none →
        q < due m ∨ (due m = q ∧ key m = false ∧ decodeKind (record m) ≠ some .ending) →
        t.ctx = ctx ∧ t.ctl = s.ctl ∧ t.cues = s.cues ∧ t.flash.cue = s.flash.cue ∧
        t.flash.reader = { s.flash.reader with readPoint := m, catchUp := none }) ∧
      (m < c.entry.cueCount → due m ≤ q → decodeKind (record m) = some .ending →
        let fadeEnd := s.ltu.lt + BitVec.ofNat 32 (480 * ramp m)
        t.ctx = fadeContexts s.ltu.lt fadeEnd ctx ∧ t.ctl = { s.ctl with state := .ending, fadeEnd := some fadeEnd } ∧
        t.cues.entries = [] ∧ t.flash.cue.on = false) ∧
      (m = c.entry.cueCount →
        t.ctx = ctx ∧ t.ctl = s.ctl ∧ t.cues = s.cues ∧ t.flash.cue = s.flash.cue ∧
        t.flash.reader = { s.flash.reader with readPoint := m, catchUp := none })) ∧
  ∀ (x : Contexts) (mask : BitVec 12) (lt : LineTime) (j : Jet),
    let set := fun (α : Type) (at_ : Layer α → α) (v : α) (before : Context α) =>
      ({ before with track := { v0 := at_ before.track, v1 := v, t0 := lt, t1 := lt + 96000#32 } } : Context α)
    (∀ h, (applyCue .track (.jet h) mask lt 200 x).jets[j] =
      if mask.getLsbD j.val = true then set Nat (natLayerAt lt) h x.jets[j] else x.jets[j]) ∧
    (∀ v, (applyCue .track (.light v) mask lt 200 x).lights[j] =
      if mask.getLsbD j.val = true then set Rgb (rgbLayerAt lt) v x.lights[j] else x.lights[j]) ∧
    ∀ g, (applyCue .track (.gain g) mask lt 200 x).gain =
      if mask.getLsbD 0 = true then set Nat (natLayerAt lt) g x.gain else x.gain

/-- How a start is taken (R66, R85, R98, R99, R105). A START for the show in hand records its start LT, valid: in ARMING
nothing else changes; in ARMED it replaces a pending start and is tested at once, q being LT less the start LT, as
START_REACHED tests the pending start. Below 0 nothing else changes; at 0 to 479 RUNNING is entered with the streams as arming
left them; at or above the show length the start is refused, counted and recorded, and the start LT is invalid; between the
two RUNNING is entered by seek: the TRACK entries are gone, both streams start afresh at q, the AUDIO stream an audio delay
earlier, and catch-up begins. A stream started where the index page is held has its segment's record and demands its start
page; elsewhere its lookup waits. At the seek the entries of the held index pages are good, and the audio delay is at most
4,800, as RequestInvariant says. Which segment the AUDIO stream looks up is the model's choice (log 35). -/
def Obligations.StartsAreTaken : Prop :=
  let tested := fun (start : LineTime) (d : ShowDescription) (s t : State) =>
    let q := ltDiff s.ltu.lt start
    (q < 0 → t = s) ∧
    (0 ≤ q → q < 480 → q < d.segments * 48000 → t = { s with ctl := { s.ctl with state := .running } }) ∧
    (0 ≤ q → d.segments * 48000 ≤ q →
      t = { s with ctl := { s.ctl with startLt := none, refusal := some (.start, .armed) }
                   counters := { s.counters with refused := bump s.counters.refused } }) ∧
    (480 ≤ q → q < d.segments * 48000 → IndexSound d s → DelayHeld s →
      (∀ (i : Fin 16) (page : Nat) (content : PageContent) (mark : Bool),
        s.flash.slots[i] ≠ .filled page none content mark) →
      t.ctl = { s.ctl with state := .running } ∧ t.ltu = s.ltu ∧ t.ctx = s.ctx ∧ t.jets = s.jets ∧ SeekLeaves q s t)
  (∀ (source : Nat) (payload : List Byte) (s : State), NothingWaits s → FrameEnds 3 source payload s →
    payload.getD 2 0#8 &&& s.config.cueGroups ≠ 0#8 → byteAt payload 0 = 2 → s.ctl.number = some (byteAt payload 1) →
    s.flash.slotFreed = false → s.flash.heldNow = [] →
    let start := BitVec.ofNat 32 (field32 payload 3)
    let recorded := { afterIdle s with ctl := { s.ctl with startLt := some start } }
    (s.ctl.state = .arming → exec .lineIdleDetection s = .next recorded) ∧
    ∀ d, s.ctl.state = .armed → s.flash.description = some d →
      ∃ t, exec .lineIdleDetection s = .next t ∧ tested start d recorded t) ∧
  ∀ (s : State) (start : LineTime) (d : ShowDescription), s.ctl.state = .armed → s.ctl.startLt = some start →
    s.flash.description = some d → s.flash.slotFreed = false → s.flash.heldNow = [] →
    ∃ t, exec .startReached s = .next t ∧ tested start d s t

/-! ### Whole-machine rules -/

/-- A command whose condition does not hold leaves the state as it is (the model's choice, log 9): the rules give it no
effect then. -/
def Obligations.UnmetCommandsLeaveState : Prop :=
  ∀ s : State,
    (∀ w, s.phase ≠ .inReset → exec (.startUpSequence w) s = .next s) ∧
    (s.line.view = .idle → exec .lineIdleDetection s = .next s) ∧
    (isDeferring s.line.tx = false → exec .deferralExpiry s = .next s) ∧
    (isSending s.line.tx = false → exec .attemptSucceeded s = .next s ∧ ∀ b, exec (.attemptFailed b) s = .next s) ∧
    (s.ltu.beaconTimer ≠ some 0 → exec .beaconPoint s = .next s) ∧
    (s.ltu.correction = 0 → exec .slewAction s = .next s) ∧
    (s.ctl.state ≠ .armed ∨ s.ctl.startLt = none → exec .startReached s = .next s) ∧
    (s.lamp.sending = none → exec .lampFrameDone s = .next s) ∧
    (∀ n, (∀ p ∈ s.peers, p.station ≠ n ∨ p.age < 20001) → exec (.peerRemoval n) s = .next s) ∧
    (∀ j : Jet, s.jets.pumps[j].state ≠ .parked → exec (.primingStart j) s = .next s) ∧
    (∀ j : Jet, s.jets.pumps[j].state ≠ .priming → exec (.primeEnd j) s = .next s) ∧
    (∀ j : Jet, s.jets.pumps[j].state ≠ .parking → exec (.runDownEnd j) s = .next s) ∧
    (∀ i raw, s.sensors.due.get i = false → exec (.sensorSample i raw) s = .next s) ∧
    (s.sensors.warmUp ≠ some 0 → exec .warmUpEnd s = .next s) ∧
    (s.sensors.secondDue = false → exec .secondBoundary s = .next s) ∧
    (∀ m, dryTimer m s = none → exec (.dryRunDetection m) s = .next s) ∧
    (s.locks.due[0] = false ∨ s.locks.estop = true → exec .estopAsserted s = .next s) ∧
    (s.locks.due[0] = false ∨ s.locks.estop = false → exec .estopReleased s = .next s) ∧
    (s.locks.due[1] = false ∨ s.locks.aux = true → exec .auxAsserted s = .next s) ∧
    (s.locks.due[1] = false ∨ s.locks.aux = false → exec .auxReleased s = .next s) ∧
    (∀ j : Jet, s.locks.due[driveInput j] = false ∨ s.locks.drive[j] = true → exec (.driveFaultAsserted j) s = .next s) ∧
    (∀ j : Jet, s.locks.due[driveInput j] = false ∨ s.locks.drive[j] = false → exec (.driveFaultReleased j) s = .next s) ∧
    (s.flash.queue = [] → exec .flashReady s = .next s ∧ exec .flashTimeout s = .next s ∧
      ∀ page v, exec (.retirement page v) s = .next s) ∧
    (s.ctl.state ≠ .running → exec .trackCueTaken s = .next s) ∧
    (∀ b, s.line.rx.assembling = false ∨ s.line.rx.inByte = false → exec (.byteReceived b) s = .next s)

/-- SAFE is left by no command but RESET and the idle detection that ends a CLEAR frame, and by that only with the ESTOP
input RELEASED (R114, R185). -/
def Obligations.SafeLeftOnlyByClear : Prop :=
  ∀ (c : Instr) (s t : State), SafeHeld s → EstopHeld s → EarlyHeld s → s.ctl.state = .safe → exec c s = .next t →
    t.ctl.state ≠ .safe →
    c = .reset ∨
      (c = .lineIdleDetection ∧ s.locks.estop = false ∧ t.ctl.state = .idle ∧
        ∃ source payload, judgeFrame s.line.rx = .valid 4 source payload ∧ (payload.getD 1 0#8).getLsbD 0 = true)

/-- Line time moves at frame boundaries alone, where FRAME_BOUNDARY, a SLEW_ACTION or the step of a BEACON_POINT advances it,
and at reset: no other command changes LT (R36). SLEW_ACTION (R25, R38, R47): with a positive correction LT advances by 2 and a
frame is dropped, with a negative one LT stays and a frame is repeated; the correction moves one toward 0, the spacing
restarts, every offset follows, and so does the beacon being received. That it makes this boundary's advance is the model's
order (log 5). -/
def Obligations.LineTimeMovers : Prop :=
  (∀ (c : Instr) (s t : State), exec c s = .next t → t.ltu.lt ≠ s.ltu.lt →
    c = .reset ∨ c = .frameBoundary ∨ c = .slewAction ∨ c = .beaconPoint) ∧
  ∀ s : State, s.ltu.correction ≠ 0 → s.ltu.made = none → (if s.ltu.fast then 100 else 1000) ≤ s.ltu.spacing →
    let n : Int := if 0 < s.ltu.correction then 1 else -1
    exec .slewAction s = .next
      { s with
        ltu := { s.ltu with
          lt := s.ltu.lt + BitVec.ofInt 32 (1 + n)
          correction := s.ltu.correction - n
          spacing := 0
          made := some (if 0 < s.ltu.correction then .drop else .repeated) }
        peers := s.peers.map fun p => { p with offset := p.offset - BitVec.ofInt 32 n }
        line := { s.line with
          rx := { s.line.rx with correction := s.line.rx.correction + BitVec.ofInt 32 n } } }

/-! ### Invariants: what every step keeps -/

/-- The flash engine (R65, R71, R72, R77, R79, R84, R89): at most 8 entries, no two of one page, as many RESERVED slots as
entries, no page of an entry FILLED, and the port busy exactly while an entry is occupied; and the depths lie in 2 to 6 and
2 to 3, and the index cache holds at most 4 pages. -/
def Obligations.FlashInvariant : Prop :=
  (∀ s t : State, FlashHeld s → step s = .next t → FlashHeld t) ∧
  ∀ s t : State, StreamsHeld s → step s = .next t → StreamsHeld t

/-- What the statements about requests lean on: an entry belongs to the stream of its purpose, a FILLED or IN_USE slot to a
stream, and a CONFIG entry is of start-up (R71, R76, R77, R190); the ARMING has one request at a time, and lookups wait only
for segments of the show that is described (R66, R102, R103, R112); and the audio delay is at most 4,800 (R191). -/
def Obligations.RequestInvariant : Prop :=
  (∀ s t : State, FlashHeld s ∧ OwnedHeld s → step s = .next t → OwnedHeld t) ∧
  (∀ s t : State, FlashHeld s ∧ OwnedHeld s ∧ RequestsHeld s → step s = .next t → RequestsHeld t) ∧
  ∀ s t : State, DelayHeld s → step s = .next t → DelayHeld t

/-- SAFE (R113, R114, R160, R185): the state is SAFE exactly while the ESTOP trip is set, and in it every RUN output is off,
every valve closed, the audio zero and every enabled light at SAFE_LIGHT. -/
def Obligations.SafeInvariant : Prop :=
  ∀ s t : State, SafeHeld s ∧ EstopHeld s ∧ EarlyHeld s → step s = .next t → SafeHeld t ∧ EstopHeld t ∧ EarlyHeld t

/-- Outside SAFE a light bound to a jet is black whenever that jet's s_out is 0 (R159). -/
def Obligations.BoundLightInvariant : Prop :=
  ∀ s t : State, LampHeld s ∧ EarlyHeld s → step s = .next t → LampHeld t ∧ EarlyHeld t

/-- The pumps. The power bound (R141, R143): for every jet s_out ≤ s_b and 1000 × s_out³ ≤ k × s_req³, and
k × T ≤ 1000 × L. A pump that is not PRIMING or RUNNING stands at speed 0, and with a park cause present there is none
that is (R144, R148). -/
def Obligations.PumpInvariant : Prop :=
  (∀ s t : State, PowerHeld s → step s = .next t → PowerHeld t) ∧
  ∀ s t : State, StoppedHeld s ∧ ParkHeld s → step s = .next t → StoppedHeld t ∧ ParkHeld t

/-- In IDLE and in SAFE the part holds no show: what every teardown leaves (R84, R86, R112). -/
def Obligations.IdleInvariant : Prop := ∀ s t : State, IdleHeld s → step s = .next t → IdleHeld t

/-- The Line Port and the Line Time Unit keep their ranges (R9, R12, R14, R16 to R18, R39, R47, R52): a slot is SENDING
exactly while an attempt sends from it, with a at most 7 and the give-up count at most 4; a count runs on an idle line, an
attempt on a busy one; in LISTEN-ONLY nothing is sent; N is a multiple of 480, the near count at most 4, the empty count below
4, and the spacing rests at 0 with no correction pending; the assembler holds the bytes it counted (R4). The tables keep
theirs: the Peer Table at most 30 records in station order, none of the own station (R20, R26); the Cue Queue at most 48
entries, 40 of them TRACK (R116); the sensor values, the counters and the drive mask (R174, R187, R193, R196). And a part held
in reset stays at its reset values (R189): which values those are where the spec gives none (log 2), and that a command does
nothing in reset (log 9), are the model's choice. -/
def Obligations.LineAndTableInvariant : Prop :=
  (∀ s t : State, LinePortHeld s ∧ SilentHeld s ∧ LineTimeHeld s → step s = .next t →
    LinePortHeld t ∧ SilentHeld t ∧ LineTimeHeld t) ∧
  ∀ s t : State, PeersHeld s ∧ ResetHeld s ∧ CuesHeld s ∧ SensorsHeld s ∧ CountersHeld s ∧ PumpMaskHeld s →
    step s = .next t → PeersHeld t ∧ ResetHeld t ∧ CuesHeld t ∧ SensorsHeld t ∧ CountersHeld t ∧ PumpMaskHeld t
end

