-- ==== Sys2Proof/Laws/Bytes.lean ====
section
/-! SUPPORT. Lengths of the records the part sends, a field read back from the bytes it was written as, and a byte from the
bits it was sent as. -/

namespace Sys2Proof.Machine

@[simp] theorem length_bytes8 (n : Nat) : (bytes8 n).length = 1 := rfl
@[simp] theorem length_bytes16 (n : Nat) : (bytes16 n).length = 2 := rfl
@[simp] theorem length_bytes24 (n : Nat) : (bytes24 n).length = 3 := rfl
@[simp] theorem length_bytes32 (n : Nat) : (bytes32 n).length = 4 := rfl
@[simp] theorem length_crcBytes (l : List Byte) : (crcBytes l).length = 2 := rfl
@[simp] theorem length_lineBits (b : Byte) : (lineBits b).length = 10 := rfl
@[simp] theorem length_pumpBytes (p : Pump) : (pumpBytes p).length = 2 := rfl

/-- Every element giving k bytes, a list gives k times as many. -/
theorem length_flatMap_const {α β : Type} (f : α → List β) (k : Nat) (h : ∀ a, (f a).length = k) (l : List α) :
    (l.flatMap f).length = k * l.length := by
  induction l with
  | nil => simp
  | cons a l ih => simp [h, ih, Nat.mul_succ, Nat.add_comm]

/-- Eight bits in order of arrival make the byte whose bit i arrived i places after the first (R2). -/
theorem byteOfBits_getLsbD (bits : List Bool) (h : bits.length = 8) (i : Nat) :
    (byteOfBits bits).getLsbD i = bits.getD i false := by
  by_cases hi : i < 8
  · simp [byteOfBits, BitVec.getLsbD_ofBoolListLE, hi]
  · simp [byteOfBits, hi, List.getElem?_eq_none (h ▸ Nat.le_of_not_lt hi : bits.length ≤ i)]

/-- The port receives a byte from the bits a sender of it puts on the line (R2). -/
theorem receivedByte_lineBits (b : Byte) : receivedByte ⟨(lineBits b).toArray, by simp⟩ = .stored b := by
  revert b; decide +kernel

/-- Ten bits a byte (R2). -/
theorem length_frameBits (bytes : List Byte) : (frameBits bytes).length = 10 * bytes.length :=
  length_flatMap_const _ 10 length_lineBits bytes

/-- Six bytes around the payload (1.2). -/
theorem length_frameBytes (kind station : Nat) (payload : List Byte) :
    (frameBytes kind station payload).length = payload.length + 6 := by
  simp [frameBytes]; omega

/-- A beacon's payload has 23 bytes (12.2). -/
theorem length_beaconPayload (s : State) : (beaconPayload s).length = 23 := by simp [beaconPayload]

/-- A STATUS payload has 80 bytes (12.2). -/
theorem length_statusPayload (s : State) : (statusPayload s).length = 80 := by
  simp [statusPayload, length_flatMap_const _ 2 length_pumpBytes, counterList]

/-- The lamp frame carries 36 slot bytes (R157). -/
theorem length_slotBytes (l : LampOutput) : (slotBytes l).length = 36 := by
  simp [slotBytes, length_flatMap_const (fun c : Rgb => bytes8 c.r ++ (bytes8 c.g ++ bytes8 c.b)) 3 (by simp)]

/-- A lamp frame has 39 bytes (R161). -/
theorem length_lampFrame (l : LampOutput) : (lampFrame l).length = 39 := by
  simp [lampFrame, length_slotBytes]

/-- A 2-byte field read back from the bytes it was written as. -/
theorem field16_bytes16 (n : Nat) (rest : List Byte) : field16 (bytes16 n ++ rest) 0 = n % 65536 := by
  simp [field16, byteAt, bytes16, bytes8]; omega

/-- A 4-byte field read back from the bytes it was written as. -/
theorem field32_bytes32 (n : Nat) (rest : List Byte) : field32 (bytes32 n ++ rest) 0 = n % 4294967296 := by
  simp [field32, field16, byteAt, bytes32, bytes16, bytes8]; omega

end Sys2Proof.Machine
end

