-- ==== Sys2Proof/Laws/State.lean ====
section
/-! SUPPORT. What each named update of the state leaves in each field: one lemma per field per update, true by rfl, so that
no later proof unfolds a record update. -/

namespace Sys2Proof.Machine

/-! #### afterDraw -/

@[simp] theorem afterDraw_pending (s : State) : (afterDraw s).pending = s.pending := rfl
@[simp] theorem afterDraw_phase (s : State) : (afterDraw s).phase = s.phase := rfl
@[simp] theorem afterDraw_station (s : State) : (afterDraw s).station = s.station := rfl
@[simp] theorem afterDraw_dryStation (s : State) : (afterDraw s).dryStation = s.dryStation := rfl
@[simp] theorem afterDraw_config (s : State) : (afterDraw s).config = s.config := rfl
@[simp] theorem afterDraw_generator (s : State) : (afterDraw s).generator = Config.generatorNext s.generator := rfl
@[simp] theorem afterDraw_framePhase (s : State) : (afterDraw s).framePhase = s.framePhase := rfl
@[simp] theorem afterDraw_ticks (s : State) : (afterDraw s).ticks = s.ticks := rfl
@[simp] theorem afterDraw_line (s : State) : (afterDraw s).line = s.line := rfl
@[simp] theorem afterDraw_peers (s : State) : (afterDraw s).peers = s.peers := rfl
@[simp] theorem afterDraw_ltu (s : State) : (afterDraw s).ltu = s.ltu := rfl
@[simp] theorem afterDraw_ctl (s : State) : (afterDraw s).ctl = s.ctl := rfl
@[simp] theorem afterDraw_flash (s : State) : (afterDraw s).flash = s.flash := rfl
@[simp] theorem afterDraw_cues (s : State) : (afterDraw s).cues = s.cues := rfl
@[simp] theorem afterDraw_ctx (s : State) : (afterDraw s).ctx = s.ctx := rfl
@[simp] theorem afterDraw_jets (s : State) : (afterDraw s).jets = s.jets := rfl
@[simp] theorem afterDraw_lamp (s : State) : (afterDraw s).lamp = s.lamp := rfl
@[simp] theorem afterDraw_audio (s : State) : (afterDraw s).audio = s.audio := rfl
@[simp] theorem afterDraw_sensors (s : State) : (afterDraw s).sensors = s.sensors := rfl
@[simp] theorem afterDraw_locks (s : State) : (afterDraw s).locks = s.locks := rfl
@[simp] theorem afterDraw_faults (s : State) : (afterDraw s).faults = s.faults := rfl
@[simp] theorem afterDraw_counters (s : State) : (afterDraw s).counters = s.counters := rfl

/-! #### latch -/

@[simp] theorem latch_pending (f : FaultSource) (s : State) : (latch f s).pending = s.pending := rfl
@[simp] theorem latch_phase (f : FaultSource) (s : State) : (latch f s).phase = s.phase := rfl
@[simp] theorem latch_station (f : FaultSource) (s : State) : (latch f s).station = s.station := rfl
@[simp] theorem latch_dryStation (f : FaultSource) (s : State) : (latch f s).dryStation = s.dryStation := rfl
@[simp] theorem latch_config (f : FaultSource) (s : State) : (latch f s).config = s.config := rfl
@[simp] theorem latch_generator (f : FaultSource) (s : State) : (latch f s).generator = s.generator := rfl
@[simp] theorem latch_framePhase (f : FaultSource) (s : State) : (latch f s).framePhase = s.framePhase := rfl
@[simp] theorem latch_ticks (f : FaultSource) (s : State) : (latch f s).ticks = s.ticks := rfl
@[simp] theorem latch_line (f : FaultSource) (s : State) : (latch f s).line = s.line := rfl
@[simp] theorem latch_peers (f : FaultSource) (s : State) : (latch f s).peers = s.peers := rfl
@[simp] theorem latch_ltu (f : FaultSource) (s : State) : (latch f s).ltu = s.ltu := rfl
@[simp] theorem latch_ctl (f : FaultSource) (s : State) : (latch f s).ctl = s.ctl := rfl
@[simp] theorem latch_flash (f : FaultSource) (s : State) : (latch f s).flash = s.flash := rfl
@[simp] theorem latch_cues (f : FaultSource) (s : State) : (latch f s).cues = s.cues := rfl
@[simp] theorem latch_ctx (f : FaultSource) (s : State) : (latch f s).ctx = s.ctx := rfl
@[simp] theorem latch_jets (f : FaultSource) (s : State) : (latch f s).jets = s.jets := rfl
@[simp] theorem latch_lamp (f : FaultSource) (s : State) : (latch f s).lamp = s.lamp := rfl
@[simp] theorem latch_audio (f : FaultSource) (s : State) : (latch f s).audio = s.audio := rfl
@[simp] theorem latch_sensors (f : FaultSource) (s : State) : (latch f s).sensors = s.sensors := rfl
@[simp] theorem latch_locks (f : FaultSource) (s : State) : (latch f s).locks = s.locks := rfl
@[simp] theorem latch_faults (f : FaultSource) (s : State) :
    (latch f s).faults = { s.faults with sources := s.faults.sources ||| sourceBit f } := rfl
@[simp] theorem latch_counters (f : FaultSource) (s : State) : (latch f s).counters = s.counters := rfl

/-! #### unlatch -/

@[simp] theorem unlatch_pending (f : FaultSource) (s : State) : (unlatch f s).pending = s.pending := rfl
@[simp] theorem unlatch_phase (f : FaultSource) (s : State) : (unlatch f s).phase = s.phase := rfl
@[simp] theorem unlatch_station (f : FaultSource) (s : State) : (unlatch f s).station = s.station := rfl
@[simp] theorem unlatch_dryStation (f : FaultSource) (s : State) : (unlatch f s).dryStation = s.dryStation := rfl
@[simp] theorem unlatch_config (f : FaultSource) (s : State) : (unlatch f s).config = s.config := rfl
@[simp] theorem unlatch_generator (f : FaultSource) (s : State) : (unlatch f s).generator = s.generator := rfl
@[simp] theorem unlatch_framePhase (f : FaultSource) (s : State) : (unlatch f s).framePhase = s.framePhase := rfl
@[simp] theorem unlatch_ticks (f : FaultSource) (s : State) : (unlatch f s).ticks = s.ticks := rfl
@[simp] theorem unlatch_line (f : FaultSource) (s : State) : (unlatch f s).line = s.line := rfl
@[simp] theorem unlatch_peers (f : FaultSource) (s : State) : (unlatch f s).peers = s.peers := rfl
@[simp] theorem unlatch_ltu (f : FaultSource) (s : State) : (unlatch f s).ltu = s.ltu := rfl
@[simp] theorem unlatch_ctl (f : FaultSource) (s : State) : (unlatch f s).ctl = s.ctl := rfl
@[simp] theorem unlatch_flash (f : FaultSource) (s : State) : (unlatch f s).flash = s.flash := rfl
@[simp] theorem unlatch_cues (f : FaultSource) (s : State) : (unlatch f s).cues = s.cues := rfl
@[simp] theorem unlatch_ctx (f : FaultSource) (s : State) : (unlatch f s).ctx = s.ctx := rfl
@[simp] theorem unlatch_jets (f : FaultSource) (s : State) : (unlatch f s).jets = s.jets := rfl
@[simp] theorem unlatch_lamp (f : FaultSource) (s : State) : (unlatch f s).lamp = s.lamp := rfl
@[simp] theorem unlatch_audio (f : FaultSource) (s : State) : (unlatch f s).audio = s.audio := rfl
@[simp] theorem unlatch_sensors (f : FaultSource) (s : State) : (unlatch f s).sensors = s.sensors := rfl
@[simp] theorem unlatch_locks (f : FaultSource) (s : State) : (unlatch f s).locks = s.locks := rfl
@[simp] theorem unlatch_faults (f : FaultSource) (s : State) :
    (unlatch f s).faults = { s.faults with sources := s.faults.sources &&& ~~~ sourceBit f } := rfl
@[simp] theorem unlatch_counters (f : FaultSource) (s : State) : (unlatch f s).counters = s.counters := rfl

/-! #### refuse -/

@[simp] theorem refuse_pending (op : RefusedOp) (s : State) : (refuse op s).pending = s.pending := rfl
@[simp] theorem refuse_phase (op : RefusedOp) (s : State) : (refuse op s).phase = s.phase := rfl
@[simp] theorem refuse_station (op : RefusedOp) (s : State) : (refuse op s).station = s.station := rfl
@[simp] theorem refuse_dryStation (op : RefusedOp) (s : State) : (refuse op s).dryStation = s.dryStation := rfl
@[simp] theorem refuse_config (op : RefusedOp) (s : State) : (refuse op s).config = s.config := rfl
@[simp] theorem refuse_generator (op : RefusedOp) (s : State) : (refuse op s).generator = s.generator := rfl
@[simp] theorem refuse_framePhase (op : RefusedOp) (s : State) : (refuse op s).framePhase = s.framePhase := rfl
@[simp] theorem refuse_ticks (op : RefusedOp) (s : State) : (refuse op s).ticks = s.ticks := rfl
@[simp] theorem refuse_line (op : RefusedOp) (s : State) : (refuse op s).line = s.line := rfl
@[simp] theorem refuse_peers (op : RefusedOp) (s : State) : (refuse op s).peers = s.peers := rfl
@[simp] theorem refuse_ltu (op : RefusedOp) (s : State) : (refuse op s).ltu = s.ltu := rfl
@[simp] theorem refuse_ctl (op : RefusedOp) (s : State) :
    (refuse op s).ctl = { s.ctl with refusal := some (op, s.ctl.state) } := rfl
@[simp] theorem refuse_flash (op : RefusedOp) (s : State) : (refuse op s).flash = s.flash := rfl
@[simp] theorem refuse_cues (op : RefusedOp) (s : State) : (refuse op s).cues = s.cues := rfl
@[simp] theorem refuse_ctx (op : RefusedOp) (s : State) : (refuse op s).ctx = s.ctx := rfl
@[simp] theorem refuse_jets (op : RefusedOp) (s : State) : (refuse op s).jets = s.jets := rfl
@[simp] theorem refuse_lamp (op : RefusedOp) (s : State) : (refuse op s).lamp = s.lamp := rfl
@[simp] theorem refuse_audio (op : RefusedOp) (s : State) : (refuse op s).audio = s.audio := rfl
@[simp] theorem refuse_sensors (op : RefusedOp) (s : State) : (refuse op s).sensors = s.sensors := rfl
@[simp] theorem refuse_locks (op : RefusedOp) (s : State) : (refuse op s).locks = s.locks := rfl
@[simp] theorem refuse_faults (op : RefusedOp) (s : State) : (refuse op s).faults = s.faults := rfl
@[simp] theorem refuse_counters (op : RefusedOp) (s : State) :
    (refuse op s).counters = { s.counters with refused := bump s.counters.refused } := rfl

/-! #### setShow -/

@[simp] theorem setShow_pending (x : ShowState) (s : State) : (setShow x s).pending = s.pending := rfl
@[simp] theorem setShow_phase (x : ShowState) (s : State) : (setShow x s).phase = s.phase := rfl
@[simp] theorem setShow_station (x : ShowState) (s : State) : (setShow x s).station = s.station := rfl
@[simp] theorem setShow_dryStation (x : ShowState) (s : State) : (setShow x s).dryStation = s.dryStation := rfl
@[simp] theorem setShow_config (x : ShowState) (s : State) : (setShow x s).config = s.config := rfl
@[simp] theorem setShow_generator (x : ShowState) (s : State) : (setShow x s).generator = s.generator := rfl
@[simp] theorem setShow_framePhase (x : ShowState) (s : State) : (setShow x s).framePhase = s.framePhase := rfl
@[simp] theorem setShow_ticks (x : ShowState) (s : State) : (setShow x s).ticks = s.ticks := rfl
@[simp] theorem setShow_line (x : ShowState) (s : State) : (setShow x s).line = s.line := rfl
@[simp] theorem setShow_peers (x : ShowState) (s : State) : (setShow x s).peers = s.peers := rfl
@[simp] theorem setShow_ltu (x : ShowState) (s : State) : (setShow x s).ltu = s.ltu := rfl
@[simp] theorem setShow_ctl (x : ShowState) (s : State) : (setShow x s).ctl = { s.ctl with state := x } := rfl
@[simp] theorem setShow_flash (x : ShowState) (s : State) : (setShow x s).flash = s.flash := rfl
@[simp] theorem setShow_cues (x : ShowState) (s : State) : (setShow x s).cues = s.cues := rfl
@[simp] theorem setShow_ctx (x : ShowState) (s : State) : (setShow x s).ctx = s.ctx := rfl
@[simp] theorem setShow_jets (x : ShowState) (s : State) : (setShow x s).jets = s.jets := rfl
@[simp] theorem setShow_lamp (x : ShowState) (s : State) : (setShow x s).lamp = s.lamp := rfl
@[simp] theorem setShow_audio (x : ShowState) (s : State) : (setShow x s).audio = s.audio := rfl
@[simp] theorem setShow_sensors (x : ShowState) (s : State) : (setShow x s).sensors = s.sensors := rfl
@[simp] theorem setShow_locks (x : ShowState) (s : State) : (setShow x s).locks = s.locks := rfl
@[simp] theorem setShow_faults (x : ShowState) (s : State) : (setShow x s).faults = s.faults := rfl
@[simp] theorem setShow_counters (x : ShowState) (s : State) : (setShow x s).counters = s.counters := rfl

/-! #### recordStart -/

@[simp] theorem recordStart_pending (t : LineTime) (s : State) : (recordStart t s).pending = s.pending := rfl
@[simp] theorem recordStart_phase (t : LineTime) (s : State) : (recordStart t s).phase = s.phase := rfl
@[simp] theorem recordStart_station (t : LineTime) (s : State) : (recordStart t s).station = s.station := rfl
@[simp] theorem recordStart_dryStation (t : LineTime) (s : State) : (recordStart t s).dryStation = s.dryStation := rfl
@[simp] theorem recordStart_config (t : LineTime) (s : State) : (recordStart t s).config = s.config := rfl
@[simp] theorem recordStart_generator (t : LineTime) (s : State) : (recordStart t s).generator = s.generator := rfl
@[simp] theorem recordStart_framePhase (t : LineTime) (s : State) : (recordStart t s).framePhase = s.framePhase := rfl
@[simp] theorem recordStart_ticks (t : LineTime) (s : State) : (recordStart t s).ticks = s.ticks := rfl
@[simp] theorem recordStart_line (t : LineTime) (s : State) : (recordStart t s).line = s.line := rfl
@[simp] theorem recordStart_peers (t : LineTime) (s : State) : (recordStart t s).peers = s.peers := rfl
@[simp] theorem recordStart_ltu (t : LineTime) (s : State) : (recordStart t s).ltu = s.ltu := rfl
@[simp] theorem recordStart_ctl (t : LineTime) (s : State) :
    (recordStart t s).ctl = { s.ctl with startLt := some t } := rfl
@[simp] theorem recordStart_flash (t : LineTime) (s : State) : (recordStart t s).flash = s.flash := rfl
@[simp] theorem recordStart_cues (t : LineTime) (s : State) : (recordStart t s).cues = s.cues := rfl
@[simp] theorem recordStart_ctx (t : LineTime) (s : State) : (recordStart t s).ctx = s.ctx := rfl
@[simp] theorem recordStart_jets (t : LineTime) (s : State) : (recordStart t s).jets = s.jets := rfl
@[simp] theorem recordStart_lamp (t : LineTime) (s : State) : (recordStart t s).lamp = s.lamp := rfl
@[simp] theorem recordStart_audio (t : LineTime) (s : State) : (recordStart t s).audio = s.audio := rfl
@[simp] theorem recordStart_sensors (t : LineTime) (s : State) : (recordStart t s).sensors = s.sensors := rfl
@[simp] theorem recordStart_locks (t : LineTime) (s : State) : (recordStart t s).locks = s.locks := rfl
@[simp] theorem recordStart_faults (t : LineTime) (s : State) : (recordStart t s).faults = s.faults := rfl
@[simp] theorem recordStart_counters (t : LineTime) (s : State) : (recordStart t s).counters = s.counters := rfl

/-! #### setPump -/

@[simp] theorem setPump_pending (j : Jet) (p : Pump) (s : State) : (setPump j p s).pending = s.pending := rfl
@[simp] theorem setPump_phase (j : Jet) (p : Pump) (s : State) : (setPump j p s).phase = s.phase := rfl
@[simp] theorem setPump_station (j : Jet) (p : Pump) (s : State) : (setPump j p s).station = s.station := rfl
@[simp] theorem setPump_dryStation (j : Jet) (p : Pump) (s : State) : (setPump j p s).dryStation = s.dryStation := rfl
@[simp] theorem setPump_config (j : Jet) (p : Pump) (s : State) : (setPump j p s).config = s.config := rfl
@[simp] theorem setPump_generator (j : Jet) (p : Pump) (s : State) : (setPump j p s).generator = s.generator := rfl
@[simp] theorem setPump_framePhase (j : Jet) (p : Pump) (s : State) : (setPump j p s).framePhase = s.framePhase := rfl
@[simp] theorem setPump_ticks (j : Jet) (p : Pump) (s : State) : (setPump j p s).ticks = s.ticks := rfl
@[simp] theorem setPump_line (j : Jet) (p : Pump) (s : State) : (setPump j p s).line = s.line := rfl
@[simp] theorem setPump_peers (j : Jet) (p : Pump) (s : State) : (setPump j p s).peers = s.peers := rfl
@[simp] theorem setPump_ltu (j : Jet) (p : Pump) (s : State) : (setPump j p s).ltu = s.ltu := rfl
@[simp] theorem setPump_ctl (j : Jet) (p : Pump) (s : State) : (setPump j p s).ctl = s.ctl := rfl
@[simp] theorem setPump_flash (j : Jet) (p : Pump) (s : State) : (setPump j p s).flash = s.flash := rfl
@[simp] theorem setPump_cues (j : Jet) (p : Pump) (s : State) : (setPump j p s).cues = s.cues := rfl
@[simp] theorem setPump_ctx (j : Jet) (p : Pump) (s : State) : (setPump j p s).ctx = s.ctx := rfl
@[simp] theorem setPump_jets (j : Jet) (p : Pump) (s : State) :
    (setPump j p s).jets = { s.jets with pumps := s.jets.pumps.set j p } := rfl
@[simp] theorem setPump_lamp (j : Jet) (p : Pump) (s : State) : (setPump j p s).lamp = s.lamp := rfl
@[simp] theorem setPump_audio (j : Jet) (p : Pump) (s : State) : (setPump j p s).audio = s.audio := rfl
@[simp] theorem setPump_sensors (j : Jet) (p : Pump) (s : State) : (setPump j p s).sensors = s.sensors := rfl
@[simp] theorem setPump_locks (j : Jet) (p : Pump) (s : State) : (setPump j p s).locks = s.locks := rfl
@[simp] theorem setPump_faults (j : Jet) (p : Pump) (s : State) : (setPump j p s).faults = s.faults := rfl
@[simp] theorem setPump_counters (j : Jet) (p : Pump) (s : State) : (setPump j p s).counters = s.counters := rfl

/-! #### setWindResume -/

@[simp] theorem setWindResume_pending (t : Option Nat) (s : State) : (setWindResume t s).pending = s.pending := rfl
@[simp] theorem setWindResume_phase (t : Option Nat) (s : State) : (setWindResume t s).phase = s.phase := rfl
@[simp] theorem setWindResume_station (t : Option Nat) (s : State) : (setWindResume t s).station = s.station := rfl
@[simp] theorem setWindResume_dryStation (t : Option Nat) (s : State) :
    (setWindResume t s).dryStation = s.dryStation := rfl
@[simp] theorem setWindResume_config (t : Option Nat) (s : State) : (setWindResume t s).config = s.config := rfl
@[simp] theorem setWindResume_generator (t : Option Nat) (s : State) :
    (setWindResume t s).generator = s.generator := rfl
@[simp] theorem setWindResume_framePhase (t : Option Nat) (s : State) :
    (setWindResume t s).framePhase = s.framePhase := rfl
@[simp] theorem setWindResume_ticks (t : Option Nat) (s : State) : (setWindResume t s).ticks = s.ticks := rfl
@[simp] theorem setWindResume_line (t : Option Nat) (s : State) : (setWindResume t s).line = s.line := rfl
@[simp] theorem setWindResume_peers (t : Option Nat) (s : State) : (setWindResume t s).peers = s.peers := rfl
@[simp] theorem setWindResume_ltu (t : Option Nat) (s : State) : (setWindResume t s).ltu = s.ltu := rfl
@[simp] theorem setWindResume_ctl (t : Option Nat) (s : State) : (setWindResume t s).ctl = s.ctl := rfl
@[simp] theorem setWindResume_flash (t : Option Nat) (s : State) : (setWindResume t s).flash = s.flash := rfl
@[simp] theorem setWindResume_cues (t : Option Nat) (s : State) : (setWindResume t s).cues = s.cues := rfl
@[simp] theorem setWindResume_ctx (t : Option Nat) (s : State) : (setWindResume t s).ctx = s.ctx := rfl
@[simp] theorem setWindResume_jets (t : Option Nat) (s : State) :
    (setWindResume t s).jets = { s.jets with windResume := t } := rfl
@[simp] theorem setWindResume_lamp (t : Option Nat) (s : State) : (setWindResume t s).lamp = s.lamp := rfl
@[simp] theorem setWindResume_audio (t : Option Nat) (s : State) : (setWindResume t s).audio = s.audio := rfl
@[simp] theorem setWindResume_sensors (t : Option Nat) (s : State) : (setWindResume t s).sensors = s.sensors := rfl
@[simp] theorem setWindResume_locks (t : Option Nat) (s : State) : (setWindResume t s).locks = s.locks := rfl
@[simp] theorem setWindResume_faults (t : Option Nat) (s : State) : (setWindResume t s).faults = s.faults := rfl
@[simp] theorem setWindResume_counters (t : Option Nat) (s : State) : (setWindResume t s).counters = s.counters := rfl

/-! #### setLevelResume -/

@[simp] theorem setLevelResume_pending (t : Option Nat) (s : State) : (setLevelResume t s).pending = s.pending := rfl
@[simp] theorem setLevelResume_phase (t : Option Nat) (s : State) : (setLevelResume t s).phase = s.phase := rfl
@[simp] theorem setLevelResume_station (t : Option Nat) (s : State) : (setLevelResume t s).station = s.station := rfl
@[simp] theorem setLevelResume_dryStation (t : Option Nat) (s : State) :
    (setLevelResume t s).dryStation = s.dryStation := rfl
@[simp] theorem setLevelResume_config (t : Option Nat) (s : State) : (setLevelResume t s).config = s.config := rfl
@[simp] theorem setLevelResume_generator (t : Option Nat) (s : State) :
    (setLevelResume t s).generator = s.generator := rfl
@[simp] theorem setLevelResume_framePhase (t : Option Nat) (s : State) :
    (setLevelResume t s).framePhase = s.framePhase := rfl
@[simp] theorem setLevelResume_ticks (t : Option Nat) (s : State) : (setLevelResume t s).ticks = s.ticks := rfl
@[simp] theorem setLevelResume_line (t : Option Nat) (s : State) : (setLevelResume t s).line = s.line := rfl
@[simp] theorem setLevelResume_peers (t : Option Nat) (s : State) : (setLevelResume t s).peers = s.peers := rfl
@[simp] theorem setLevelResume_ltu (t : Option Nat) (s : State) : (setLevelResume t s).ltu = s.ltu := rfl
@[simp] theorem setLevelResume_ctl (t : Option Nat) (s : State) : (setLevelResume t s).ctl = s.ctl := rfl
@[simp] theorem setLevelResume_flash (t : Option Nat) (s : State) : (setLevelResume t s).flash = s.flash := rfl
@[simp] theorem setLevelResume_cues (t : Option Nat) (s : State) : (setLevelResume t s).cues = s.cues := rfl
@[simp] theorem setLevelResume_ctx (t : Option Nat) (s : State) : (setLevelResume t s).ctx = s.ctx := rfl
@[simp] theorem setLevelResume_jets (t : Option Nat) (s : State) :
    (setLevelResume t s).jets = { s.jets with levelResume := t } := rfl
@[simp] theorem setLevelResume_lamp (t : Option Nat) (s : State) : (setLevelResume t s).lamp = s.lamp := rfl
@[simp] theorem setLevelResume_audio (t : Option Nat) (s : State) : (setLevelResume t s).audio = s.audio := rfl
@[simp] theorem setLevelResume_sensors (t : Option Nat) (s : State) : (setLevelResume t s).sensors = s.sensors := rfl
@[simp] theorem setLevelResume_locks (t : Option Nat) (s : State) : (setLevelResume t s).locks = s.locks := rfl
@[simp] theorem setLevelResume_faults (t : Option Nat) (s : State) : (setLevelResume t s).faults = s.faults := rfl
@[simp] theorem setLevelResume_counters (t : Option Nat) (s : State) : (setLevelResume t s).counters = s.counters := rfl

/-! #### onFlash -/

@[simp] theorem onFlash_pending (g : FlashEngine → FlashEngine) (s : State) : (onFlash g s).pending = s.pending := rfl
@[simp] theorem onFlash_phase (g : FlashEngine → FlashEngine) (s : State) : (onFlash g s).phase = s.phase := rfl
@[simp] theorem onFlash_station (g : FlashEngine → FlashEngine) (s : State) : (onFlash g s).station = s.station := rfl
@[simp] theorem onFlash_dryStation (g : FlashEngine → FlashEngine) (s : State) :
    (onFlash g s).dryStation = s.dryStation := rfl
@[simp] theorem onFlash_config (g : FlashEngine → FlashEngine) (s : State) : (onFlash g s).config = s.config := rfl
@[simp] theorem onFlash_generator (g : FlashEngine → FlashEngine) (s : State) :
    (onFlash g s).generator = s.generator := rfl
@[simp] theorem onFlash_framePhase (g : FlashEngine → FlashEngine) (s : State) :
    (onFlash g s).framePhase = s.framePhase := rfl
@[simp] theorem onFlash_ticks (g : FlashEngine → FlashEngine) (s : State) : (onFlash g s).ticks = s.ticks := rfl
@[simp] theorem onFlash_line (g : FlashEngine → FlashEngine) (s : State) : (onFlash g s).line = s.line := rfl
@[simp] theorem onFlash_peers (g : FlashEngine → FlashEngine) (s : State) : (onFlash g s).peers = s.peers := rfl
@[simp] theorem onFlash_ltu (g : FlashEngine → FlashEngine) (s : State) : (onFlash g s).ltu = s.ltu := rfl
@[simp] theorem onFlash_ctl (g : FlashEngine → FlashEngine) (s : State) : (onFlash g s).ctl = s.ctl := rfl
@[simp] theorem onFlash_flash (g : FlashEngine → FlashEngine) (s : State) : (onFlash g s).flash = g s.flash := rfl
@[simp] theorem onFlash_cues (g : FlashEngine → FlashEngine) (s : State) : (onFlash g s).cues = s.cues := rfl
@[simp] theorem onFlash_ctx (g : FlashEngine → FlashEngine) (s : State) : (onFlash g s).ctx = s.ctx := rfl
@[simp] theorem onFlash_jets (g : FlashEngine → FlashEngine) (s : State) : (onFlash g s).jets = s.jets := rfl
@[simp] theorem onFlash_lamp (g : FlashEngine → FlashEngine) (s : State) : (onFlash g s).lamp = s.lamp := rfl
@[simp] theorem onFlash_audio (g : FlashEngine → FlashEngine) (s : State) : (onFlash g s).audio = s.audio := rfl
@[simp] theorem onFlash_sensors (g : FlashEngine → FlashEngine) (s : State) : (onFlash g s).sensors = s.sensors := rfl
@[simp] theorem onFlash_locks (g : FlashEngine → FlashEngine) (s : State) : (onFlash g s).locks = s.locks := rfl
@[simp] theorem onFlash_faults (g : FlashEngine → FlashEngine) (s : State) : (onFlash g s).faults = s.faults := rfl
@[simp] theorem onFlash_counters (g : FlashEngine → FlashEngine) (s : State) :
    (onFlash g s).counters = s.counters := rfl

/-! #### onLine -/

@[simp] theorem onLine_pending (g : LinePort → LinePort) (s : State) : (onLine g s).pending = s.pending := rfl
@[simp] theorem onLine_phase (g : LinePort → LinePort) (s : State) : (onLine g s).phase = s.phase := rfl
@[simp] theorem onLine_station (g : LinePort → LinePort) (s : State) : (onLine g s).station = s.station := rfl
@[simp] theorem onLine_dryStation (g : LinePort → LinePort) (s : State) : (onLine g s).dryStation = s.dryStation := rfl
@[simp] theorem onLine_config (g : LinePort → LinePort) (s : State) : (onLine g s).config = s.config := rfl
@[simp] theorem onLine_generator (g : LinePort → LinePort) (s : State) : (onLine g s).generator = s.generator := rfl
@[simp] theorem onLine_framePhase (g : LinePort → LinePort) (s : State) : (onLine g s).framePhase = s.framePhase := rfl
@[simp] theorem onLine_ticks (g : LinePort → LinePort) (s : State) : (onLine g s).ticks = s.ticks := rfl
@[simp] theorem onLine_line (g : LinePort → LinePort) (s : State) : (onLine g s).line = g s.line := rfl
@[simp] theorem onLine_peers (g : LinePort → LinePort) (s : State) : (onLine g s).peers = s.peers := rfl
@[simp] theorem onLine_ltu (g : LinePort → LinePort) (s : State) : (onLine g s).ltu = s.ltu := rfl
@[simp] theorem onLine_ctl (g : LinePort → LinePort) (s : State) : (onLine g s).ctl = s.ctl := rfl
@[simp] theorem onLine_flash (g : LinePort → LinePort) (s : State) : (onLine g s).flash = s.flash := rfl
@[simp] theorem onLine_cues (g : LinePort → LinePort) (s : State) : (onLine g s).cues = s.cues := rfl
@[simp] theorem onLine_ctx (g : LinePort → LinePort) (s : State) : (onLine g s).ctx = s.ctx := rfl
@[simp] theorem onLine_jets (g : LinePort → LinePort) (s : State) : (onLine g s).jets = s.jets := rfl
@[simp] theorem onLine_lamp (g : LinePort → LinePort) (s : State) : (onLine g s).lamp = s.lamp := rfl
@[simp] theorem onLine_audio (g : LinePort → LinePort) (s : State) : (onLine g s).audio = s.audio := rfl
@[simp] theorem onLine_sensors (g : LinePort → LinePort) (s : State) : (onLine g s).sensors = s.sensors := rfl
@[simp] theorem onLine_locks (g : LinePort → LinePort) (s : State) : (onLine g s).locks = s.locks := rfl
@[simp] theorem onLine_faults (g : LinePort → LinePort) (s : State) : (onLine g s).faults = s.faults := rfl
@[simp] theorem onLine_counters (g : LinePort → LinePort) (s : State) : (onLine g s).counters = s.counters := rfl

/-! #### onLtu -/

@[simp] theorem onLtu_pending (g : LineTimeUnit → LineTimeUnit) (s : State) : (onLtu g s).pending = s.pending := rfl
@[simp] theorem onLtu_phase (g : LineTimeUnit → LineTimeUnit) (s : State) : (onLtu g s).phase = s.phase := rfl
@[simp] theorem onLtu_station (g : LineTimeUnit → LineTimeUnit) (s : State) : (onLtu g s).station = s.station := rfl
@[simp] theorem onLtu_dryStation (g : LineTimeUnit → LineTimeUnit) (s : State) :
    (onLtu g s).dryStation = s.dryStation := rfl
@[simp] theorem onLtu_config (g : LineTimeUnit → LineTimeUnit) (s : State) : (onLtu g s).config = s.config := rfl
@[simp] theorem onLtu_generator (g : LineTimeUnit → LineTimeUnit) (s : State) :
    (onLtu g s).generator = s.generator := rfl
@[simp] theorem onLtu_framePhase (g : LineTimeUnit → LineTimeUnit) (s : State) :
    (onLtu g s).framePhase = s.framePhase := rfl
@[simp] theorem onLtu_ticks (g : LineTimeUnit → LineTimeUnit) (s : State) : (onLtu g s).ticks = s.ticks := rfl
@[simp] theorem onLtu_line (g : LineTimeUnit → LineTimeUnit) (s : State) : (onLtu g s).line = s.line := rfl
@[simp] theorem onLtu_peers (g : LineTimeUnit → LineTimeUnit) (s : State) : (onLtu g s).peers = s.peers := rfl
@[simp] theorem onLtu_ltu (g : LineTimeUnit → LineTimeUnit) (s : State) : (onLtu g s).ltu = g s.ltu := rfl
@[simp] theorem onLtu_ctl (g : LineTimeUnit → LineTimeUnit) (s : State) : (onLtu g s).ctl = s.ctl := rfl
@[simp] theorem onLtu_flash (g : LineTimeUnit → LineTimeUnit) (s : State) : (onLtu g s).flash = s.flash := rfl
@[simp] theorem onLtu_cues (g : LineTimeUnit → LineTimeUnit) (s : State) : (onLtu g s).cues = s.cues := rfl
@[simp] theorem onLtu_ctx (g : LineTimeUnit → LineTimeUnit) (s : State) : (onLtu g s).ctx = s.ctx := rfl
@[simp] theorem onLtu_jets (g : LineTimeUnit → LineTimeUnit) (s : State) : (onLtu g s).jets = s.jets := rfl
@[simp] theorem onLtu_lamp (g : LineTimeUnit → LineTimeUnit) (s : State) : (onLtu g s).lamp = s.lamp := rfl
@[simp] theorem onLtu_audio (g : LineTimeUnit → LineTimeUnit) (s : State) : (onLtu g s).audio = s.audio := rfl
@[simp] theorem onLtu_sensors (g : LineTimeUnit → LineTimeUnit) (s : State) : (onLtu g s).sensors = s.sensors := rfl
@[simp] theorem onLtu_locks (g : LineTimeUnit → LineTimeUnit) (s : State) : (onLtu g s).locks = s.locks := rfl
@[simp] theorem onLtu_faults (g : LineTimeUnit → LineTimeUnit) (s : State) : (onLtu g s).faults = s.faults := rfl
@[simp] theorem onLtu_counters (g : LineTimeUnit → LineTimeUnit) (s : State) : (onLtu g s).counters = s.counters := rfl

/-! #### onReader -/

@[simp] theorem onReader_pending (g : CueReader → CueReader) (s : State) : (onReader g s).pending = s.pending := rfl
@[simp] theorem onReader_phase (g : CueReader → CueReader) (s : State) : (onReader g s).phase = s.phase := rfl
@[simp] theorem onReader_station (g : CueReader → CueReader) (s : State) : (onReader g s).station = s.station := rfl
@[simp] theorem onReader_dryStation (g : CueReader → CueReader) (s : State) :
    (onReader g s).dryStation = s.dryStation := rfl
@[simp] theorem onReader_config (g : CueReader → CueReader) (s : State) : (onReader g s).config = s.config := rfl
@[simp] theorem onReader_generator (g : CueReader → CueReader) (s : State) :
    (onReader g s).generator = s.generator := rfl
@[simp] theorem onReader_framePhase (g : CueReader → CueReader) (s : State) :
    (onReader g s).framePhase = s.framePhase := rfl
@[simp] theorem onReader_ticks (g : CueReader → CueReader) (s : State) : (onReader g s).ticks = s.ticks := rfl
@[simp] theorem onReader_line (g : CueReader → CueReader) (s : State) : (onReader g s).line = s.line := rfl
@[simp] theorem onReader_peers (g : CueReader → CueReader) (s : State) : (onReader g s).peers = s.peers := rfl
@[simp] theorem onReader_ltu (g : CueReader → CueReader) (s : State) : (onReader g s).ltu = s.ltu := rfl
@[simp] theorem onReader_ctl (g : CueReader → CueReader) (s : State) : (onReader g s).ctl = s.ctl := rfl
@[simp] theorem onReader_flash (g : CueReader → CueReader) (s : State) :
    (onReader g s).flash = { s.flash with reader := g s.flash.reader } := rfl
@[simp] theorem onReader_cues (g : CueReader → CueReader) (s : State) : (onReader g s).cues = s.cues := rfl
@[simp] theorem onReader_ctx (g : CueReader → CueReader) (s : State) : (onReader g s).ctx = s.ctx := rfl
@[simp] theorem onReader_jets (g : CueReader → CueReader) (s : State) : (onReader g s).jets = s.jets := rfl
@[simp] theorem onReader_lamp (g : CueReader → CueReader) (s : State) : (onReader g s).lamp = s.lamp := rfl
@[simp] theorem onReader_audio (g : CueReader → CueReader) (s : State) : (onReader g s).audio = s.audio := rfl
@[simp] theorem onReader_sensors (g : CueReader → CueReader) (s : State) : (onReader g s).sensors = s.sensors := rfl
@[simp] theorem onReader_locks (g : CueReader → CueReader) (s : State) : (onReader g s).locks = s.locks := rfl
@[simp] theorem onReader_faults (g : CueReader → CueReader) (s : State) : (onReader g s).faults = s.faults := rfl
@[simp] theorem onReader_counters (g : CueReader → CueReader) (s : State) : (onReader g s).counters = s.counters := rfl

/-! #### correctOffsets -/

@[simp] theorem correctOffsets_pending (n : Int) (s : State) : (correctOffsets n s).pending = s.pending := rfl
@[simp] theorem correctOffsets_phase (n : Int) (s : State) : (correctOffsets n s).phase = s.phase := rfl
@[simp] theorem correctOffsets_station (n : Int) (s : State) : (correctOffsets n s).station = s.station := rfl
@[simp] theorem correctOffsets_dryStation (n : Int) (s : State) : (correctOffsets n s).dryStation = s.dryStation := rfl
@[simp] theorem correctOffsets_config (n : Int) (s : State) : (correctOffsets n s).config = s.config := rfl
@[simp] theorem correctOffsets_generator (n : Int) (s : State) : (correctOffsets n s).generator = s.generator := rfl
@[simp] theorem correctOffsets_framePhase (n : Int) (s : State) : (correctOffsets n s).framePhase = s.framePhase := rfl
@[simp] theorem correctOffsets_ticks (n : Int) (s : State) : (correctOffsets n s).ticks = s.ticks := rfl
@[simp] theorem correctOffsets_line (n : Int) (s : State) :
    (correctOffsets n s).line = { s.line with rx := { s.line.rx with correction := s.line.rx.correction + BitVec.ofInt 32 n } } := rfl
@[simp] theorem correctOffsets_peers (n : Int) (s : State) :
    (correctOffsets n s).peers = s.peers.map fun p => { p with offset := p.offset - BitVec.ofInt 32 n } := rfl
@[simp] theorem correctOffsets_ltu (n : Int) (s : State) : (correctOffsets n s).ltu = s.ltu := rfl
@[simp] theorem correctOffsets_ctl (n : Int) (s : State) : (correctOffsets n s).ctl = s.ctl := rfl
@[simp] theorem correctOffsets_flash (n : Int) (s : State) : (correctOffsets n s).flash = s.flash := rfl
@[simp] theorem correctOffsets_cues (n : Int) (s : State) : (correctOffsets n s).cues = s.cues := rfl
@[simp] theorem correctOffsets_ctx (n : Int) (s : State) : (correctOffsets n s).ctx = s.ctx := rfl
@[simp] theorem correctOffsets_jets (n : Int) (s : State) : (correctOffsets n s).jets = s.jets := rfl
@[simp] theorem correctOffsets_lamp (n : Int) (s : State) : (correctOffsets n s).lamp = s.lamp := rfl
@[simp] theorem correctOffsets_audio (n : Int) (s : State) : (correctOffsets n s).audio = s.audio := rfl
@[simp] theorem correctOffsets_sensors (n : Int) (s : State) : (correctOffsets n s).sensors = s.sensors := rfl
@[simp] theorem correctOffsets_locks (n : Int) (s : State) : (correctOffsets n s).locks = s.locks := rfl
@[simp] theorem correctOffsets_faults (n : Int) (s : State) : (correctOffsets n s).faults = s.faults := rfl
@[simp] theorem correctOffsets_counters (n : Int) (s : State) : (correctOffsets n s).counters = s.counters := rfl

/-! #### takeSamples -/

@[simp] theorem takeSamples_pending (s : State) : (takeSamples s).pending = s.pending := rfl
@[simp] theorem takeSamples_phase (s : State) : (takeSamples s).phase = s.phase := rfl
@[simp] theorem takeSamples_station (s : State) : (takeSamples s).station = s.station := rfl
@[simp] theorem takeSamples_dryStation (s : State) : (takeSamples s).dryStation = s.dryStation := rfl
@[simp] theorem takeSamples_config (s : State) : (takeSamples s).config = s.config := rfl
@[simp] theorem takeSamples_generator (s : State) : (takeSamples s).generator = s.generator := rfl
@[simp] theorem takeSamples_framePhase (s : State) : (takeSamples s).framePhase = s.framePhase := rfl
@[simp] theorem takeSamples_ticks (s : State) : (takeSamples s).ticks = s.ticks := rfl
@[simp] theorem takeSamples_line (s : State) : (takeSamples s).line = s.line := rfl
@[simp] theorem takeSamples_peers (s : State) : (takeSamples s).peers = samplesTaken s.config.syncGroup s.peers := rfl
@[simp] theorem takeSamples_ltu (s : State) : (takeSamples s).ltu = s.ltu := rfl
@[simp] theorem takeSamples_ctl (s : State) : (takeSamples s).ctl = s.ctl := rfl
@[simp] theorem takeSamples_flash (s : State) : (takeSamples s).flash = s.flash := rfl
@[simp] theorem takeSamples_cues (s : State) : (takeSamples s).cues = s.cues := rfl
@[simp] theorem takeSamples_ctx (s : State) : (takeSamples s).ctx = s.ctx := rfl
@[simp] theorem takeSamples_jets (s : State) : (takeSamples s).jets = s.jets := rfl
@[simp] theorem takeSamples_lamp (s : State) : (takeSamples s).lamp = s.lamp := rfl
@[simp] theorem takeSamples_audio (s : State) : (takeSamples s).audio = s.audio := rfl
@[simp] theorem takeSamples_sensors (s : State) : (takeSamples s).sensors = s.sensors := rfl
@[simp] theorem takeSamples_locks (s : State) : (takeSamples s).locks = s.locks := rfl
@[simp] theorem takeSamples_faults (s : State) : (takeSamples s).faults = s.faults := rfl
@[simp] theorem takeSamples_counters (s : State) : (takeSamples s).counters = s.counters := rfl

/-! #### computeLights -/

@[simp] theorem computeLights_pending (s : State) : (computeLights s).pending = s.pending := rfl
@[simp] theorem computeLights_phase (s : State) : (computeLights s).phase = s.phase := rfl
@[simp] theorem computeLights_station (s : State) : (computeLights s).station = s.station := rfl
@[simp] theorem computeLights_dryStation (s : State) : (computeLights s).dryStation = s.dryStation := rfl
@[simp] theorem computeLights_config (s : State) : (computeLights s).config = s.config := rfl
@[simp] theorem computeLights_generator (s : State) : (computeLights s).generator = s.generator := rfl
@[simp] theorem computeLights_framePhase (s : State) : (computeLights s).framePhase = s.framePhase := rfl
@[simp] theorem computeLights_ticks (s : State) : (computeLights s).ticks = s.ticks := rfl
@[simp] theorem computeLights_line (s : State) : (computeLights s).line = s.line := rfl
@[simp] theorem computeLights_peers (s : State) : (computeLights s).peers = s.peers := rfl
@[simp] theorem computeLights_ltu (s : State) : (computeLights s).ltu = s.ltu := rfl
@[simp] theorem computeLights_ctl (s : State) : (computeLights s).ctl = s.ctl := rfl
@[simp] theorem computeLights_flash (s : State) : (computeLights s).flash = s.flash := rfl
@[simp] theorem computeLights_cues (s : State) : (computeLights s).cues = s.cues := rfl
@[simp] theorem computeLights_ctx (s : State) : (computeLights s).ctx = s.ctx := rfl
@[simp] theorem computeLights_jets (s : State) : (computeLights s).jets = s.jets := rfl
@[simp] theorem computeLights_lamp (s : State) :
    (computeLights s).lamp = { s.lamp with slots := Vector.ofFn fun i => lightValue s i } := rfl
@[simp] theorem computeLights_audio (s : State) : (computeLights s).audio = s.audio := rfl
@[simp] theorem computeLights_sensors (s : State) : (computeLights s).sensors = s.sensors := rfl
@[simp] theorem computeLights_locks (s : State) : (computeLights s).locks = s.locks := rfl
@[simp] theorem computeLights_faults (s : State) : (computeLights s).faults = s.faults := rfl
@[simp] theorem computeLights_counters (s : State) : (computeLights s).counters = s.counters := rfl

/-! #### computeBoundLights -/

@[simp] theorem computeBoundLights_pending (j : Jet) (s : State) : (computeBoundLights j s).pending = s.pending := rfl
@[simp] theorem computeBoundLights_phase (j : Jet) (s : State) : (computeBoundLights j s).phase = s.phase := rfl
@[simp] theorem computeBoundLights_station (j : Jet) (s : State) : (computeBoundLights j s).station = s.station := rfl
@[simp] theorem computeBoundLights_dryStation (j : Jet) (s : State) :
    (computeBoundLights j s).dryStation = s.dryStation := rfl
@[simp] theorem computeBoundLights_config (j : Jet) (s : State) : (computeBoundLights j s).config = s.config := rfl
@[simp] theorem computeBoundLights_generator (j : Jet) (s : State) :
    (computeBoundLights j s).generator = s.generator := rfl
@[simp] theorem computeBoundLights_framePhase (j : Jet) (s : State) :
    (computeBoundLights j s).framePhase = s.framePhase := rfl
@[simp] theorem computeBoundLights_ticks (j : Jet) (s : State) : (computeBoundLights j s).ticks = s.ticks := rfl
@[simp] theorem computeBoundLights_line (j : Jet) (s : State) : (computeBoundLights j s).line = s.line := rfl
@[simp] theorem computeBoundLights_peers (j : Jet) (s : State) : (computeBoundLights j s).peers = s.peers := rfl
@[simp] theorem computeBoundLights_ltu (j : Jet) (s : State) : (computeBoundLights j s).ltu = s.ltu := rfl
@[simp] theorem computeBoundLights_ctl (j : Jet) (s : State) : (computeBoundLights j s).ctl = s.ctl := rfl
@[simp] theorem computeBoundLights_flash (j : Jet) (s : State) : (computeBoundLights j s).flash = s.flash := rfl
@[simp] theorem computeBoundLights_cues (j : Jet) (s : State) : (computeBoundLights j s).cues = s.cues := rfl
@[simp] theorem computeBoundLights_ctx (j : Jet) (s : State) : (computeBoundLights j s).ctx = s.ctx := rfl
@[simp] theorem computeBoundLights_jets (j : Jet) (s : State) : (computeBoundLights j s).jets = s.jets := rfl
@[simp] theorem computeBoundLights_lamp (j : Jet) (s : State) :
    (computeBoundLights j s).lamp = { s.lamp with
      slots := Vector.ofFn fun i =>
        if s.config.lights[i].binding = some j then lightValue s i else s.lamp.slots[i] } := rfl
@[simp] theorem computeBoundLights_audio (j : Jet) (s : State) : (computeBoundLights j s).audio = s.audio := rfl
@[simp] theorem computeBoundLights_sensors (j : Jet) (s : State) : (computeBoundLights j s).sensors = s.sensors := rfl
@[simp] theorem computeBoundLights_locks (j : Jet) (s : State) : (computeBoundLights j s).locks = s.locks := rfl
@[simp] theorem computeBoundLights_faults (j : Jet) (s : State) : (computeBoundLights j s).faults = s.faults := rfl
@[simp] theorem computeBoundLights_counters (j : Jet) (s : State) :
    (computeBoundLights j s).counters = s.counters := rfl

/-! #### sendFrame -/

@[simp] theorem sendFrame_pending (left right : BitVec 16) (s : State) :
    (sendFrame left right s).pending = s.pending := rfl
@[simp] theorem sendFrame_phase (left right : BitVec 16) (s : State) : (sendFrame left right s).phase = s.phase := rfl
@[simp] theorem sendFrame_station (left right : BitVec 16) (s : State) :
    (sendFrame left right s).station = s.station := rfl
@[simp] theorem sendFrame_dryStation (left right : BitVec 16) (s : State) :
    (sendFrame left right s).dryStation = s.dryStation := rfl
@[simp] theorem sendFrame_config (left right : BitVec 16) (s : State) :
    (sendFrame left right s).config = s.config := rfl
@[simp] theorem sendFrame_generator (left right : BitVec 16) (s : State) :
    (sendFrame left right s).generator = s.generator := rfl
@[simp] theorem sendFrame_framePhase (left right : BitVec 16) (s : State) :
    (sendFrame left right s).framePhase = s.framePhase := rfl
@[simp] theorem sendFrame_ticks (left right : BitVec 16) (s : State) : (sendFrame left right s).ticks = s.ticks := rfl
@[simp] theorem sendFrame_line (left right : BitVec 16) (s : State) : (sendFrame left right s).line = s.line := rfl
@[simp] theorem sendFrame_peers (left right : BitVec 16) (s : State) : (sendFrame left right s).peers = s.peers := rfl
@[simp] theorem sendFrame_ltu (left right : BitVec 16) (s : State) : (sendFrame left right s).ltu = s.ltu := rfl
@[simp] theorem sendFrame_ctl (left right : BitVec 16) (s : State) : (sendFrame left right s).ctl = s.ctl := rfl
@[simp] theorem sendFrame_flash (left right : BitVec 16) (s : State) : (sendFrame left right s).flash = s.flash := rfl
@[simp] theorem sendFrame_cues (left right : BitVec 16) (s : State) : (sendFrame left right s).cues = s.cues := rfl
@[simp] theorem sendFrame_ctx (left right : BitVec 16) (s : State) : (sendFrame left right s).ctx = s.ctx := rfl
@[simp] theorem sendFrame_jets (left right : BitVec 16) (s : State) : (sendFrame left right s).jets = s.jets := rfl
@[simp] theorem sendFrame_lamp (left right : BitVec 16) (s : State) : (sendFrame left right s).lamp = s.lamp := rfl
@[simp] theorem sendFrame_audio (left right : BitVec 16) (s : State) :
    (sendFrame left right s).audio = { s.audio with left := left, right := right, run := 0 } := rfl
@[simp] theorem sendFrame_sensors (left right : BitVec 16) (s : State) :
    (sendFrame left right s).sensors = s.sensors := rfl
@[simp] theorem sendFrame_locks (left right : BitVec 16) (s : State) : (sendFrame left right s).locks = s.locks := rfl
@[simp] theorem sendFrame_faults (left right : BitVec 16) (s : State) :
    (sendFrame left right s).faults = s.faults := rfl
@[simp] theorem sendFrame_counters (left right : BitVec 16) (s : State) :
    (sendFrame left right s).counters = s.counters := rfl

/-! #### joinQueue -/

@[simp] theorem joinQueue_pending (source : CueSource) (due : LineTime) (c : CueRecord) (s : State) :
    (joinQueue source due c s).pending = s.pending := rfl
@[simp] theorem joinQueue_phase (source : CueSource) (due : LineTime) (c : CueRecord) (s : State) :
    (joinQueue source due c s).phase = s.phase := rfl
@[simp] theorem joinQueue_station (source : CueSource) (due : LineTime) (c : CueRecord) (s : State) :
    (joinQueue source due c s).station = s.station := rfl
@[simp] theorem joinQueue_dryStation (source : CueSource) (due : LineTime) (c : CueRecord) (s : State) :
    (joinQueue source due c s).dryStation = s.dryStation := rfl
@[simp] theorem joinQueue_config (source : CueSource) (due : LineTime) (c : CueRecord) (s : State) :
    (joinQueue source due c s).config = s.config := rfl
@[simp] theorem joinQueue_generator (source : CueSource) (due : LineTime) (c : CueRecord) (s : State) :
    (joinQueue source due c s).generator = s.generator := rfl
@[simp] theorem joinQueue_framePhase (source : CueSource) (due : LineTime) (c : CueRecord) (s : State) :
    (joinQueue source due c s).framePhase = s.framePhase := rfl
@[simp] theorem joinQueue_ticks (source : CueSource) (due : LineTime) (c : CueRecord) (s : State) :
    (joinQueue source due c s).ticks = s.ticks := rfl
@[simp] theorem joinQueue_line (source : CueSource) (due : LineTime) (c : CueRecord) (s : State) :
    (joinQueue source due c s).line = s.line := rfl
@[simp] theorem joinQueue_peers (source : CueSource) (due : LineTime) (c : CueRecord) (s : State) :
    (joinQueue source due c s).peers = s.peers := rfl
@[simp] theorem joinQueue_ltu (source : CueSource) (due : LineTime) (c : CueRecord) (s : State) :
    (joinQueue source due c s).ltu = s.ltu := rfl
@[simp] theorem joinQueue_ctl (source : CueSource) (due : LineTime) (c : CueRecord) (s : State) :
    (joinQueue source due c s).ctl = s.ctl := rfl
@[simp] theorem joinQueue_flash (source : CueSource) (due : LineTime) (c : CueRecord) (s : State) :
    (joinQueue source due c s).flash = s.flash := rfl
@[simp] theorem joinQueue_ctx (source : CueSource) (due : LineTime) (c : CueRecord) (s : State) :
    (joinQueue source due c s).ctx = s.ctx := rfl
@[simp] theorem joinQueue_jets (source : CueSource) (due : LineTime) (c : CueRecord) (s : State) :
    (joinQueue source due c s).jets = s.jets := rfl
@[simp] theorem joinQueue_lamp (source : CueSource) (due : LineTime) (c : CueRecord) (s : State) :
    (joinQueue source due c s).lamp = s.lamp := rfl
@[simp] theorem joinQueue_audio (source : CueSource) (due : LineTime) (c : CueRecord) (s : State) :
    (joinQueue source due c s).audio = s.audio := rfl
@[simp] theorem joinQueue_sensors (source : CueSource) (due : LineTime) (c : CueRecord) (s : State) :
    (joinQueue source due c s).sensors = s.sensors := rfl
@[simp] theorem joinQueue_locks (source : CueSource) (due : LineTime) (c : CueRecord) (s : State) :
    (joinQueue source due c s).locks = s.locks := rfl
@[simp] theorem joinQueue_faults (source : CueSource) (due : LineTime) (c : CueRecord) (s : State) :
    (joinQueue source due c s).faults = s.faults := rfl
@[simp] theorem joinQueue_counters (source : CueSource) (due : LineTime) (c : CueRecord) (s : State) :
    (joinQueue source due c s).counters = s.counters := rfl

/-! #### countMalformed -/

@[simp] theorem countMalformed_pending (s : State) : (countMalformed s).pending = s.pending := rfl
@[simp] theorem countMalformed_phase (s : State) : (countMalformed s).phase = s.phase := rfl
@[simp] theorem countMalformed_station (s : State) : (countMalformed s).station = s.station := rfl
@[simp] theorem countMalformed_dryStation (s : State) : (countMalformed s).dryStation = s.dryStation := rfl
@[simp] theorem countMalformed_config (s : State) : (countMalformed s).config = s.config := rfl
@[simp] theorem countMalformed_generator (s : State) : (countMalformed s).generator = s.generator := rfl
@[simp] theorem countMalformed_framePhase (s : State) : (countMalformed s).framePhase = s.framePhase := rfl
@[simp] theorem countMalformed_ticks (s : State) : (countMalformed s).ticks = s.ticks := rfl
@[simp] theorem countMalformed_line (s : State) : (countMalformed s).line = s.line := rfl
@[simp] theorem countMalformed_peers (s : State) : (countMalformed s).peers = s.peers := rfl
@[simp] theorem countMalformed_ltu (s : State) : (countMalformed s).ltu = s.ltu := rfl
@[simp] theorem countMalformed_ctl (s : State) : (countMalformed s).ctl = s.ctl := rfl
@[simp] theorem countMalformed_flash (s : State) : (countMalformed s).flash = s.flash := rfl
@[simp] theorem countMalformed_cues (s : State) : (countMalformed s).cues = s.cues := rfl
@[simp] theorem countMalformed_ctx (s : State) : (countMalformed s).ctx = s.ctx := rfl
@[simp] theorem countMalformed_jets (s : State) : (countMalformed s).jets = s.jets := rfl
@[simp] theorem countMalformed_lamp (s : State) : (countMalformed s).lamp = s.lamp := rfl
@[simp] theorem countMalformed_audio (s : State) : (countMalformed s).audio = s.audio := rfl
@[simp] theorem countMalformed_sensors (s : State) : (countMalformed s).sensors = s.sensors := rfl
@[simp] theorem countMalformed_locks (s : State) : (countMalformed s).locks = s.locks := rfl
@[simp] theorem countMalformed_faults (s : State) : (countMalformed s).faults = s.faults := rfl
@[simp] theorem countMalformed_counters (s : State) :
    (countMalformed s).counters = { s.counters with cueMalformed := bump s.counters.cueMalformed } := rfl

/-! #### countStale -/

@[simp] theorem countStale_pending (s : State) : (countStale s).pending = s.pending := rfl
@[simp] theorem countStale_phase (s : State) : (countStale s).phase = s.phase := rfl
@[simp] theorem countStale_station (s : State) : (countStale s).station = s.station := rfl
@[simp] theorem countStale_dryStation (s : State) : (countStale s).dryStation = s.dryStation := rfl
@[simp] theorem countStale_config (s : State) : (countStale s).config = s.config := rfl
@[simp] theorem countStale_generator (s : State) : (countStale s).generator = s.generator := rfl
@[simp] theorem countStale_framePhase (s : State) : (countStale s).framePhase = s.framePhase := rfl
@[simp] theorem countStale_ticks (s : State) : (countStale s).ticks = s.ticks := rfl
@[simp] theorem countStale_line (s : State) : (countStale s).line = s.line := rfl
@[simp] theorem countStale_peers (s : State) : (countStale s).peers = s.peers := rfl
@[simp] theorem countStale_ltu (s : State) : (countStale s).ltu = s.ltu := rfl
@[simp] theorem countStale_ctl (s : State) : (countStale s).ctl = s.ctl := rfl
@[simp] theorem countStale_flash (s : State) : (countStale s).flash = s.flash := rfl
@[simp] theorem countStale_cues (s : State) : (countStale s).cues = s.cues := rfl
@[simp] theorem countStale_ctx (s : State) : (countStale s).ctx = s.ctx := rfl
@[simp] theorem countStale_jets (s : State) : (countStale s).jets = s.jets := rfl
@[simp] theorem countStale_lamp (s : State) : (countStale s).lamp = s.lamp := rfl
@[simp] theorem countStale_audio (s : State) : (countStale s).audio = s.audio := rfl
@[simp] theorem countStale_sensors (s : State) : (countStale s).sensors = s.sensors := rfl
@[simp] theorem countStale_locks (s : State) : (countStale s).locks = s.locks := rfl
@[simp] theorem countStale_faults (s : State) : (countStale s).faults = s.faults := rfl
@[simp] theorem countStale_counters (s : State) :
    (countStale s).counters = { s.counters with cueStale := bump s.counters.cueStale } := rfl

/-! #### countReject -/

@[simp] theorem countReject_pending (s : State) : (countReject s).pending = s.pending := rfl
@[simp] theorem countReject_phase (s : State) : (countReject s).phase = s.phase := rfl
@[simp] theorem countReject_station (s : State) : (countReject s).station = s.station := rfl
@[simp] theorem countReject_dryStation (s : State) : (countReject s).dryStation = s.dryStation := rfl
@[simp] theorem countReject_config (s : State) : (countReject s).config = s.config := rfl
@[simp] theorem countReject_generator (s : State) : (countReject s).generator = s.generator := rfl
@[simp] theorem countReject_framePhase (s : State) : (countReject s).framePhase = s.framePhase := rfl
@[simp] theorem countReject_ticks (s : State) : (countReject s).ticks = s.ticks := rfl
@[simp] theorem countReject_line (s : State) : (countReject s).line = s.line := rfl
@[simp] theorem countReject_peers (s : State) : (countReject s).peers = s.peers := rfl
@[simp] theorem countReject_ltu (s : State) : (countReject s).ltu = s.ltu := rfl
@[simp] theorem countReject_ctl (s : State) : (countReject s).ctl = s.ctl := rfl
@[simp] theorem countReject_flash (s : State) : (countReject s).flash = s.flash := rfl
@[simp] theorem countReject_cues (s : State) : (countReject s).cues = s.cues := rfl
@[simp] theorem countReject_ctx (s : State) : (countReject s).ctx = s.ctx := rfl
@[simp] theorem countReject_jets (s : State) : (countReject s).jets = s.jets := rfl
@[simp] theorem countReject_lamp (s : State) : (countReject s).lamp = s.lamp := rfl
@[simp] theorem countReject_audio (s : State) : (countReject s).audio = s.audio := rfl
@[simp] theorem countReject_sensors (s : State) : (countReject s).sensors = s.sensors := rfl
@[simp] theorem countReject_locks (s : State) : (countReject s).locks = s.locks := rfl
@[simp] theorem countReject_faults (s : State) : (countReject s).faults = s.faults := rfl
@[simp] theorem countReject_counters (s : State) :
    (countReject s).counters = { s.counters with cueReject := bump s.counters.cueReject } := rfl

/-! #### countVerdicts -/

@[simp] theorem countVerdicts_pending (v : Verdicts) (s : State) : (countVerdicts v s).pending = s.pending := rfl
@[simp] theorem countVerdicts_phase (v : Verdicts) (s : State) : (countVerdicts v s).phase = s.phase := rfl
@[simp] theorem countVerdicts_station (v : Verdicts) (s : State) : (countVerdicts v s).station = s.station := rfl
@[simp] theorem countVerdicts_dryStation (v : Verdicts) (s : State) :
    (countVerdicts v s).dryStation = s.dryStation := rfl
@[simp] theorem countVerdicts_config (v : Verdicts) (s : State) : (countVerdicts v s).config = s.config := rfl
@[simp] theorem countVerdicts_generator (v : Verdicts) (s : State) : (countVerdicts v s).generator = s.generator := rfl
@[simp] theorem countVerdicts_framePhase (v : Verdicts) (s : State) :
    (countVerdicts v s).framePhase = s.framePhase := rfl
@[simp] theorem countVerdicts_ticks (v : Verdicts) (s : State) : (countVerdicts v s).ticks = s.ticks := rfl
@[simp] theorem countVerdicts_line (v : Verdicts) (s : State) : (countVerdicts v s).line = s.line := rfl
@[simp] theorem countVerdicts_peers (v : Verdicts) (s : State) : (countVerdicts v s).peers = s.peers := rfl
@[simp] theorem countVerdicts_ltu (v : Verdicts) (s : State) : (countVerdicts v s).ltu = s.ltu := rfl
@[simp] theorem countVerdicts_ctl (v : Verdicts) (s : State) : (countVerdicts v s).ctl = s.ctl := rfl
@[simp] theorem countVerdicts_flash (v : Verdicts) (s : State) : (countVerdicts v s).flash = s.flash := rfl
@[simp] theorem countVerdicts_cues (v : Verdicts) (s : State) : (countVerdicts v s).cues = s.cues := rfl
@[simp] theorem countVerdicts_ctx (v : Verdicts) (s : State) : (countVerdicts v s).ctx = s.ctx := rfl
@[simp] theorem countVerdicts_jets (v : Verdicts) (s : State) : (countVerdicts v s).jets = s.jets := rfl
@[simp] theorem countVerdicts_lamp (v : Verdicts) (s : State) : (countVerdicts v s).lamp = s.lamp := rfl
@[simp] theorem countVerdicts_audio (v : Verdicts) (s : State) : (countVerdicts v s).audio = s.audio := rfl
@[simp] theorem countVerdicts_sensors (v : Verdicts) (s : State) : (countVerdicts v s).sensors = s.sensors := rfl
@[simp] theorem countVerdicts_locks (v : Verdicts) (s : State) : (countVerdicts v s).locks = s.locks := rfl
@[simp] theorem countVerdicts_faults (v : Verdicts) (s : State) : (countVerdicts v s).faults = s.faults := rfl

/-! #### setInput -/

@[simp] theorem setInput_pending (i : AnalogInput) (r : InputRecord) (s : State) :
    (setInput i r s).pending = s.pending := rfl
@[simp] theorem setInput_phase (i : AnalogInput) (r : InputRecord) (s : State) : (setInput i r s).phase = s.phase := rfl
@[simp] theorem setInput_station (i : AnalogInput) (r : InputRecord) (s : State) :
    (setInput i r s).station = s.station := rfl
@[simp] theorem setInput_dryStation (i : AnalogInput) (r : InputRecord) (s : State) :
    (setInput i r s).dryStation = s.dryStation := rfl
@[simp] theorem setInput_config (i : AnalogInput) (r : InputRecord) (s : State) :
    (setInput i r s).config = s.config := rfl
@[simp] theorem setInput_generator (i : AnalogInput) (r : InputRecord) (s : State) :
    (setInput i r s).generator = s.generator := rfl
@[simp] theorem setInput_framePhase (i : AnalogInput) (r : InputRecord) (s : State) :
    (setInput i r s).framePhase = s.framePhase := rfl
@[simp] theorem setInput_ticks (i : AnalogInput) (r : InputRecord) (s : State) : (setInput i r s).ticks = s.ticks := rfl
@[simp] theorem setInput_line (i : AnalogInput) (r : InputRecord) (s : State) : (setInput i r s).line = s.line := rfl
@[simp] theorem setInput_peers (i : AnalogInput) (r : InputRecord) (s : State) : (setInput i r s).peers = s.peers := rfl
@[simp] theorem setInput_ltu (i : AnalogInput) (r : InputRecord) (s : State) : (setInput i r s).ltu = s.ltu := rfl
@[simp] theorem setInput_ctl (i : AnalogInput) (r : InputRecord) (s : State) : (setInput i r s).ctl = s.ctl := rfl
@[simp] theorem setInput_flash (i : AnalogInput) (r : InputRecord) (s : State) : (setInput i r s).flash = s.flash := rfl
@[simp] theorem setInput_cues (i : AnalogInput) (r : InputRecord) (s : State) : (setInput i r s).cues = s.cues := rfl
@[simp] theorem setInput_ctx (i : AnalogInput) (r : InputRecord) (s : State) : (setInput i r s).ctx = s.ctx := rfl
@[simp] theorem setInput_jets (i : AnalogInput) (r : InputRecord) (s : State) : (setInput i r s).jets = s.jets := rfl
@[simp] theorem setInput_lamp (i : AnalogInput) (r : InputRecord) (s : State) : (setInput i r s).lamp = s.lamp := rfl
@[simp] theorem setInput_audio (i : AnalogInput) (r : InputRecord) (s : State) : (setInput i r s).audio = s.audio := rfl
@[simp] theorem setInput_sensors (i : AnalogInput) (r : InputRecord) (s : State) :
    (setInput i r s).sensors = { s.sensors with inputs := s.sensors.inputs.put i r } := rfl
@[simp] theorem setInput_locks (i : AnalogInput) (r : InputRecord) (s : State) : (setInput i r s).locks = s.locks := rfl
@[simp] theorem setInput_faults (i : AnalogInput) (r : InputRecord) (s : State) :
    (setInput i r s).faults = s.faults := rfl
@[simp] theorem setInput_counters (i : AnalogInput) (r : InputRecord) (s : State) :
    (setInput i r s).counters = s.counters := rfl

/-! #### spendSample -/

@[simp] theorem spendSample_pending (i : AnalogInput) (s : State) : (spendSample i s).pending = s.pending := rfl
@[simp] theorem spendSample_phase (i : AnalogInput) (s : State) : (spendSample i s).phase = s.phase := rfl
@[simp] theorem spendSample_station (i : AnalogInput) (s : State) : (spendSample i s).station = s.station := rfl
@[simp] theorem spendSample_dryStation (i : AnalogInput) (s : State) :
    (spendSample i s).dryStation = s.dryStation := rfl
@[simp] theorem spendSample_config (i : AnalogInput) (s : State) : (spendSample i s).config = s.config := rfl
@[simp] theorem spendSample_generator (i : AnalogInput) (s : State) : (spendSample i s).generator = s.generator := rfl
@[simp] theorem spendSample_framePhase (i : AnalogInput) (s : State) :
    (spendSample i s).framePhase = s.framePhase := rfl
@[simp] theorem spendSample_ticks (i : AnalogInput) (s : State) : (spendSample i s).ticks = s.ticks := rfl
@[simp] theorem spendSample_line (i : AnalogInput) (s : State) : (spendSample i s).line = s.line := rfl
@[simp] theorem spendSample_peers (i : AnalogInput) (s : State) : (spendSample i s).peers = s.peers := rfl
@[simp] theorem spendSample_ltu (i : AnalogInput) (s : State) : (spendSample i s).ltu = s.ltu := rfl
@[simp] theorem spendSample_ctl (i : AnalogInput) (s : State) : (spendSample i s).ctl = s.ctl := rfl
@[simp] theorem spendSample_flash (i : AnalogInput) (s : State) : (spendSample i s).flash = s.flash := rfl
@[simp] theorem spendSample_cues (i : AnalogInput) (s : State) : (spendSample i s).cues = s.cues := rfl
@[simp] theorem spendSample_ctx (i : AnalogInput) (s : State) : (spendSample i s).ctx = s.ctx := rfl
@[simp] theorem spendSample_jets (i : AnalogInput) (s : State) : (spendSample i s).jets = s.jets := rfl
@[simp] theorem spendSample_lamp (i : AnalogInput) (s : State) : (spendSample i s).lamp = s.lamp := rfl
@[simp] theorem spendSample_audio (i : AnalogInput) (s : State) : (spendSample i s).audio = s.audio := rfl
@[simp] theorem spendSample_sensors (i : AnalogInput) (s : State) :
    (spendSample i s).sensors = { s.sensors with due := s.sensors.due.put i false } := rfl
@[simp] theorem spendSample_locks (i : AnalogInput) (s : State) : (spendSample i s).locks = s.locks := rfl
@[simp] theorem spendSample_faults (i : AnalogInput) (s : State) : (spendSample i s).faults = s.faults := rfl
@[simp] theorem spendSample_counters (i : AnalogInput) (s : State) : (spendSample i s).counters = s.counters := rfl

/-! #### setLevelTimers -/

@[simp] theorem setLevelTimers_pending (low high : Option Nat) (s : State) :
    (setLevelTimers low high s).pending = s.pending := rfl
@[simp] theorem setLevelTimers_phase (low high : Option Nat) (s : State) :
    (setLevelTimers low high s).phase = s.phase := rfl
@[simp] theorem setLevelTimers_station (low high : Option Nat) (s : State) :
    (setLevelTimers low high s).station = s.station := rfl
@[simp] theorem setLevelTimers_dryStation (low high : Option Nat) (s : State) :
    (setLevelTimers low high s).dryStation = s.dryStation := rfl
@[simp] theorem setLevelTimers_config (low high : Option Nat) (s : State) :
    (setLevelTimers low high s).config = s.config := rfl
@[simp] theorem setLevelTimers_generator (low high : Option Nat) (s : State) :
    (setLevelTimers low high s).generator = s.generator := rfl
@[simp] theorem setLevelTimers_framePhase (low high : Option Nat) (s : State) :
    (setLevelTimers low high s).framePhase = s.framePhase := rfl
@[simp] theorem setLevelTimers_ticks (low high : Option Nat) (s : State) :
    (setLevelTimers low high s).ticks = s.ticks := rfl
@[simp] theorem setLevelTimers_line (low high : Option Nat) (s : State) :
    (setLevelTimers low high s).line = s.line := rfl
@[simp] theorem setLevelTimers_peers (low high : Option Nat) (s : State) :
    (setLevelTimers low high s).peers = s.peers := rfl
@[simp] theorem setLevelTimers_ltu (low high : Option Nat) (s : State) : (setLevelTimers low high s).ltu = s.ltu := rfl
@[simp] theorem setLevelTimers_ctl (low high : Option Nat) (s : State) : (setLevelTimers low high s).ctl = s.ctl := rfl
@[simp] theorem setLevelTimers_flash (low high : Option Nat) (s : State) :
    (setLevelTimers low high s).flash = s.flash := rfl
@[simp] theorem setLevelTimers_cues (low high : Option Nat) (s : State) :
    (setLevelTimers low high s).cues = s.cues := rfl
@[simp] theorem setLevelTimers_ctx (low high : Option Nat) (s : State) : (setLevelTimers low high s).ctx = s.ctx := rfl
@[simp] theorem setLevelTimers_jets (low high : Option Nat) (s : State) :
    (setLevelTimers low high s).jets = s.jets := rfl
@[simp] theorem setLevelTimers_lamp (low high : Option Nat) (s : State) :
    (setLevelTimers low high s).lamp = s.lamp := rfl
@[simp] theorem setLevelTimers_audio (low high : Option Nat) (s : State) :
    (setLevelTimers low high s).audio = s.audio := rfl
@[simp] theorem setLevelTimers_sensors (low high : Option Nat) (s : State) :
    (setLevelTimers low high s).sensors = { s.sensors with lowTimer := low, highTimer := high } := rfl
@[simp] theorem setLevelTimers_locks (low high : Option Nat) (s : State) :
    (setLevelTimers low high s).locks = s.locks := rfl
@[simp] theorem setLevelTimers_faults (low high : Option Nat) (s : State) :
    (setLevelTimers low high s).faults = s.faults := rfl
@[simp] theorem setLevelTimers_counters (low high : Option Nat) (s : State) :
    (setLevelTimers low high s).counters = s.counters := rfl

/-! #### setDrive -/

@[simp] theorem setDrive_pending (j : Jet) (b : Bool) (s : State) : (setDrive j b s).pending = s.pending := rfl
@[simp] theorem setDrive_phase (j : Jet) (b : Bool) (s : State) : (setDrive j b s).phase = s.phase := rfl
@[simp] theorem setDrive_station (j : Jet) (b : Bool) (s : State) : (setDrive j b s).station = s.station := rfl
@[simp] theorem setDrive_dryStation (j : Jet) (b : Bool) (s : State) : (setDrive j b s).dryStation = s.dryStation := rfl
@[simp] theorem setDrive_config (j : Jet) (b : Bool) (s : State) : (setDrive j b s).config = s.config := rfl
@[simp] theorem setDrive_generator (j : Jet) (b : Bool) (s : State) : (setDrive j b s).generator = s.generator := rfl
@[simp] theorem setDrive_framePhase (j : Jet) (b : Bool) (s : State) : (setDrive j b s).framePhase = s.framePhase := rfl
@[simp] theorem setDrive_ticks (j : Jet) (b : Bool) (s : State) : (setDrive j b s).ticks = s.ticks := rfl
@[simp] theorem setDrive_line (j : Jet) (b : Bool) (s : State) : (setDrive j b s).line = s.line := rfl
@[simp] theorem setDrive_peers (j : Jet) (b : Bool) (s : State) : (setDrive j b s).peers = s.peers := rfl
@[simp] theorem setDrive_ltu (j : Jet) (b : Bool) (s : State) : (setDrive j b s).ltu = s.ltu := rfl
@[simp] theorem setDrive_ctl (j : Jet) (b : Bool) (s : State) : (setDrive j b s).ctl = s.ctl := rfl
@[simp] theorem setDrive_flash (j : Jet) (b : Bool) (s : State) : (setDrive j b s).flash = s.flash := rfl
@[simp] theorem setDrive_cues (j : Jet) (b : Bool) (s : State) : (setDrive j b s).cues = s.cues := rfl
@[simp] theorem setDrive_ctx (j : Jet) (b : Bool) (s : State) : (setDrive j b s).ctx = s.ctx := rfl
@[simp] theorem setDrive_jets (j : Jet) (b : Bool) (s : State) : (setDrive j b s).jets = s.jets := rfl
@[simp] theorem setDrive_lamp (j : Jet) (b : Bool) (s : State) : (setDrive j b s).lamp = s.lamp := rfl
@[simp] theorem setDrive_audio (j : Jet) (b : Bool) (s : State) : (setDrive j b s).audio = s.audio := rfl
@[simp] theorem setDrive_sensors (j : Jet) (b : Bool) (s : State) : (setDrive j b s).sensors = s.sensors := rfl
@[simp] theorem setDrive_locks (j : Jet) (b : Bool) (s : State) :
    (setDrive j b s).locks = { s.locks with drive := s.locks.drive.set j b } := rfl
@[simp] theorem setDrive_faults (j : Jet) (b : Bool) (s : State) : (setDrive j b s).faults = s.faults := rfl
@[simp] theorem setDrive_counters (j : Jet) (b : Bool) (s : State) : (setDrive j b s).counters = s.counters := rfl

/-! #### setTrip -/

@[simp] theorem setTrip_pending (j : Jet) (b : Bool) (s : State) : (setTrip j b s).pending = s.pending := rfl
@[simp] theorem setTrip_phase (j : Jet) (b : Bool) (s : State) : (setTrip j b s).phase = s.phase := rfl
@[simp] theorem setTrip_station (j : Jet) (b : Bool) (s : State) : (setTrip j b s).station = s.station := rfl
@[simp] theorem setTrip_dryStation (j : Jet) (b : Bool) (s : State) : (setTrip j b s).dryStation = s.dryStation := rfl
@[simp] theorem setTrip_config (j : Jet) (b : Bool) (s : State) : (setTrip j b s).config = s.config := rfl
@[simp] theorem setTrip_generator (j : Jet) (b : Bool) (s : State) : (setTrip j b s).generator = s.generator := rfl
@[simp] theorem setTrip_framePhase (j : Jet) (b : Bool) (s : State) : (setTrip j b s).framePhase = s.framePhase := rfl
@[simp] theorem setTrip_ticks (j : Jet) (b : Bool) (s : State) : (setTrip j b s).ticks = s.ticks := rfl
@[simp] theorem setTrip_line (j : Jet) (b : Bool) (s : State) : (setTrip j b s).line = s.line := rfl
@[simp] theorem setTrip_peers (j : Jet) (b : Bool) (s : State) : (setTrip j b s).peers = s.peers := rfl
@[simp] theorem setTrip_ltu (j : Jet) (b : Bool) (s : State) : (setTrip j b s).ltu = s.ltu := rfl
@[simp] theorem setTrip_ctl (j : Jet) (b : Bool) (s : State) : (setTrip j b s).ctl = s.ctl := rfl
@[simp] theorem setTrip_flash (j : Jet) (b : Bool) (s : State) : (setTrip j b s).flash = s.flash := rfl
@[simp] theorem setTrip_cues (j : Jet) (b : Bool) (s : State) : (setTrip j b s).cues = s.cues := rfl
@[simp] theorem setTrip_ctx (j : Jet) (b : Bool) (s : State) : (setTrip j b s).ctx = s.ctx := rfl
@[simp] theorem setTrip_jets (j : Jet) (b : Bool) (s : State) : (setTrip j b s).jets = s.jets := rfl
@[simp] theorem setTrip_lamp (j : Jet) (b : Bool) (s : State) : (setTrip j b s).lamp = s.lamp := rfl
@[simp] theorem setTrip_audio (j : Jet) (b : Bool) (s : State) : (setTrip j b s).audio = s.audio := rfl
@[simp] theorem setTrip_sensors (j : Jet) (b : Bool) (s : State) : (setTrip j b s).sensors = s.sensors := rfl
@[simp] theorem setTrip_locks (j : Jet) (b : Bool) (s : State) :
    (setTrip j b s).locks = { s.locks with driveTrips := s.locks.driveTrips.set j b } := rfl
@[simp] theorem setTrip_faults (j : Jet) (b : Bool) (s : State) : (setTrip j b s).faults = s.faults := rfl
@[simp] theorem setTrip_counters (j : Jet) (b : Bool) (s : State) : (setTrip j b s).counters = s.counters := rfl

/-! #### spendInput -/

@[simp] theorem spendInput_pending (n : Fin 14) (s : State) : (spendInput n s).pending = s.pending := rfl
@[simp] theorem spendInput_phase (n : Fin 14) (s : State) : (spendInput n s).phase = s.phase := rfl
@[simp] theorem spendInput_station (n : Fin 14) (s : State) : (spendInput n s).station = s.station := rfl
@[simp] theorem spendInput_dryStation (n : Fin 14) (s : State) : (spendInput n s).dryStation = s.dryStation := rfl
@[simp] theorem spendInput_config (n : Fin 14) (s : State) : (spendInput n s).config = s.config := rfl
@[simp] theorem spendInput_generator (n : Fin 14) (s : State) : (spendInput n s).generator = s.generator := rfl
@[simp] theorem spendInput_framePhase (n : Fin 14) (s : State) : (spendInput n s).framePhase = s.framePhase := rfl
@[simp] theorem spendInput_ticks (n : Fin 14) (s : State) : (spendInput n s).ticks = s.ticks := rfl
@[simp] theorem spendInput_line (n : Fin 14) (s : State) : (spendInput n s).line = s.line := rfl
@[simp] theorem spendInput_peers (n : Fin 14) (s : State) : (spendInput n s).peers = s.peers := rfl
@[simp] theorem spendInput_ltu (n : Fin 14) (s : State) : (spendInput n s).ltu = s.ltu := rfl
@[simp] theorem spendInput_ctl (n : Fin 14) (s : State) : (spendInput n s).ctl = s.ctl := rfl
@[simp] theorem spendInput_flash (n : Fin 14) (s : State) : (spendInput n s).flash = s.flash := rfl
@[simp] theorem spendInput_cues (n : Fin 14) (s : State) : (spendInput n s).cues = s.cues := rfl
@[simp] theorem spendInput_ctx (n : Fin 14) (s : State) : (spendInput n s).ctx = s.ctx := rfl
@[simp] theorem spendInput_jets (n : Fin 14) (s : State) : (spendInput n s).jets = s.jets := rfl
@[simp] theorem spendInput_lamp (n : Fin 14) (s : State) : (spendInput n s).lamp = s.lamp := rfl
@[simp] theorem spendInput_audio (n : Fin 14) (s : State) : (spendInput n s).audio = s.audio := rfl
@[simp] theorem spendInput_sensors (n : Fin 14) (s : State) : (spendInput n s).sensors = s.sensors := rfl
@[simp] theorem spendInput_locks (n : Fin 14) (s : State) :
    (spendInput n s).locks = { s.locks with due := s.locks.due.set n false } := rfl
@[simp] theorem spendInput_faults (n : Fin 14) (s : State) : (spendInput n s).faults = s.faults := rfl
@[simp] theorem spendInput_counters (n : Fin 14) (s : State) : (spendInput n s).counters = s.counters := rfl

/-! #### releaseEstop -/

@[simp] theorem releaseEstop_pending (s : State) : (releaseEstop s).pending = s.pending := rfl
@[simp] theorem releaseEstop_phase (s : State) : (releaseEstop s).phase = s.phase := rfl
@[simp] theorem releaseEstop_station (s : State) : (releaseEstop s).station = s.station := rfl
@[simp] theorem releaseEstop_dryStation (s : State) : (releaseEstop s).dryStation = s.dryStation := rfl
@[simp] theorem releaseEstop_config (s : State) : (releaseEstop s).config = s.config := rfl
@[simp] theorem releaseEstop_generator (s : State) : (releaseEstop s).generator = s.generator := rfl
@[simp] theorem releaseEstop_framePhase (s : State) : (releaseEstop s).framePhase = s.framePhase := rfl
@[simp] theorem releaseEstop_ticks (s : State) : (releaseEstop s).ticks = s.ticks := rfl
@[simp] theorem releaseEstop_line (s : State) : (releaseEstop s).line = s.line := rfl
@[simp] theorem releaseEstop_peers (s : State) : (releaseEstop s).peers = s.peers := rfl
@[simp] theorem releaseEstop_ltu (s : State) : (releaseEstop s).ltu = s.ltu := rfl
@[simp] theorem releaseEstop_ctl (s : State) : (releaseEstop s).ctl = s.ctl := rfl
@[simp] theorem releaseEstop_flash (s : State) : (releaseEstop s).flash = s.flash := rfl
@[simp] theorem releaseEstop_cues (s : State) : (releaseEstop s).cues = s.cues := rfl
@[simp] theorem releaseEstop_ctx (s : State) : (releaseEstop s).ctx = s.ctx := rfl
@[simp] theorem releaseEstop_jets (s : State) : (releaseEstop s).jets = s.jets := rfl
@[simp] theorem releaseEstop_lamp (s : State) : (releaseEstop s).lamp = s.lamp := rfl
@[simp] theorem releaseEstop_audio (s : State) : (releaseEstop s).audio = s.audio := rfl
@[simp] theorem releaseEstop_sensors (s : State) : (releaseEstop s).sensors = s.sensors := rfl
@[simp] theorem releaseEstop_locks (s : State) : (releaseEstop s).locks = { s.locks with estop := false } := rfl
@[simp] theorem releaseEstop_faults (s : State) : (releaseEstop s).faults = s.faults := rfl
@[simp] theorem releaseEstop_counters (s : State) : (releaseEstop s).counters = s.counters := rfl

/-! #### maskPump -/

@[simp] theorem maskPump_pending (j : Jet) (s : State) : (maskPump j s).pending = s.pending := rfl
@[simp] theorem maskPump_phase (j : Jet) (s : State) : (maskPump j s).phase = s.phase := rfl
@[simp] theorem maskPump_station (j : Jet) (s : State) : (maskPump j s).station = s.station := rfl
@[simp] theorem maskPump_dryStation (j : Jet) (s : State) : (maskPump j s).dryStation = s.dryStation := rfl
@[simp] theorem maskPump_config (j : Jet) (s : State) : (maskPump j s).config = s.config := rfl
@[simp] theorem maskPump_generator (j : Jet) (s : State) : (maskPump j s).generator = s.generator := rfl
@[simp] theorem maskPump_framePhase (j : Jet) (s : State) : (maskPump j s).framePhase = s.framePhase := rfl
@[simp] theorem maskPump_ticks (j : Jet) (s : State) : (maskPump j s).ticks = s.ticks := rfl
@[simp] theorem maskPump_line (j : Jet) (s : State) : (maskPump j s).line = s.line := rfl
@[simp] theorem maskPump_peers (j : Jet) (s : State) : (maskPump j s).peers = s.peers := rfl
@[simp] theorem maskPump_ltu (j : Jet) (s : State) : (maskPump j s).ltu = s.ltu := rfl
@[simp] theorem maskPump_ctl (j : Jet) (s : State) : (maskPump j s).ctl = s.ctl := rfl
@[simp] theorem maskPump_flash (j : Jet) (s : State) : (maskPump j s).flash = s.flash := rfl
@[simp] theorem maskPump_cues (j : Jet) (s : State) : (maskPump j s).cues = s.cues := rfl
@[simp] theorem maskPump_ctx (j : Jet) (s : State) : (maskPump j s).ctx = s.ctx := rfl
@[simp] theorem maskPump_jets (j : Jet) (s : State) : (maskPump j s).jets = s.jets := rfl
@[simp] theorem maskPump_lamp (j : Jet) (s : State) : (maskPump j s).lamp = s.lamp := rfl
@[simp] theorem maskPump_audio (j : Jet) (s : State) : (maskPump j s).audio = s.audio := rfl
@[simp] theorem maskPump_sensors (j : Jet) (s : State) : (maskPump j s).sensors = s.sensors := rfl
@[simp] theorem maskPump_locks (j : Jet) (s : State) : (maskPump j s).locks = s.locks := rfl
@[simp] theorem maskPump_counters (j : Jet) (s : State) : (maskPump j s).counters = s.counters := rfl

/-! #### clearEstop -/

@[simp] theorem clearEstop_pending (s : State) : (clearEstop s).pending = s.pending := rfl
@[simp] theorem clearEstop_phase (s : State) : (clearEstop s).phase = s.phase := rfl
@[simp] theorem clearEstop_station (s : State) : (clearEstop s).station = s.station := rfl
@[simp] theorem clearEstop_dryStation (s : State) : (clearEstop s).dryStation = s.dryStation := rfl
@[simp] theorem clearEstop_config (s : State) : (clearEstop s).config = s.config := rfl
@[simp] theorem clearEstop_generator (s : State) : (clearEstop s).generator = s.generator := rfl
@[simp] theorem clearEstop_framePhase (s : State) : (clearEstop s).framePhase = s.framePhase := rfl
@[simp] theorem clearEstop_ticks (s : State) : (clearEstop s).ticks = s.ticks := rfl
@[simp] theorem clearEstop_line (s : State) : (clearEstop s).line = s.line := rfl
@[simp] theorem clearEstop_peers (s : State) : (clearEstop s).peers = s.peers := rfl
@[simp] theorem clearEstop_ltu (s : State) : (clearEstop s).ltu = s.ltu := rfl
@[simp] theorem clearEstop_ctl (s : State) : (clearEstop s).ctl = s.ctl := rfl
@[simp] theorem clearEstop_flash (s : State) : (clearEstop s).flash = s.flash := rfl
@[simp] theorem clearEstop_cues (s : State) : (clearEstop s).cues = s.cues := rfl
@[simp] theorem clearEstop_ctx (s : State) : (clearEstop s).ctx = s.ctx := rfl
@[simp] theorem clearEstop_jets (s : State) : (clearEstop s).jets = s.jets := rfl
@[simp] theorem clearEstop_lamp (s : State) : (clearEstop s).lamp = s.lamp := rfl
@[simp] theorem clearEstop_audio (s : State) : (clearEstop s).audio = s.audio := rfl
@[simp] theorem clearEstop_sensors (s : State) : (clearEstop s).sensors = s.sensors := rfl
@[simp] theorem clearEstop_locks (s : State) :
    (clearEstop s).locks = { s.locks with estopTrip := s.locks.estopTrip && s.locks.estop } := rfl
@[simp] theorem clearEstop_faults (s : State) : (clearEstop s).faults = s.faults := rfl
@[simp] theorem clearEstop_counters (s : State) : (clearEstop s).counters = s.counters := rfl

/-! #### clearDrive -/

@[simp] theorem clearDrive_pending (s : State) : (clearDrive s).pending = s.pending := rfl
@[simp] theorem clearDrive_phase (s : State) : (clearDrive s).phase = s.phase := rfl
@[simp] theorem clearDrive_station (s : State) : (clearDrive s).station = s.station := rfl
@[simp] theorem clearDrive_dryStation (s : State) : (clearDrive s).dryStation = s.dryStation := rfl
@[simp] theorem clearDrive_config (s : State) : (clearDrive s).config = s.config := rfl
@[simp] theorem clearDrive_generator (s : State) : (clearDrive s).generator = s.generator := rfl
@[simp] theorem clearDrive_framePhase (s : State) : (clearDrive s).framePhase = s.framePhase := rfl
@[simp] theorem clearDrive_ticks (s : State) : (clearDrive s).ticks = s.ticks := rfl
@[simp] theorem clearDrive_line (s : State) : (clearDrive s).line = s.line := rfl
@[simp] theorem clearDrive_peers (s : State) : (clearDrive s).peers = s.peers := rfl
@[simp] theorem clearDrive_ltu (s : State) : (clearDrive s).ltu = s.ltu := rfl
@[simp] theorem clearDrive_ctl (s : State) : (clearDrive s).ctl = s.ctl := rfl
@[simp] theorem clearDrive_flash (s : State) : (clearDrive s).flash = s.flash := rfl
@[simp] theorem clearDrive_cues (s : State) : (clearDrive s).cues = s.cues := rfl
@[simp] theorem clearDrive_ctx (s : State) : (clearDrive s).ctx = s.ctx := rfl
@[simp] theorem clearDrive_jets (s : State) : (clearDrive s).jets = s.jets := rfl
@[simp] theorem clearDrive_lamp (s : State) : (clearDrive s).lamp = s.lamp := rfl
@[simp] theorem clearDrive_audio (s : State) : (clearDrive s).audio = s.audio := rfl
@[simp] theorem clearDrive_sensors (s : State) : (clearDrive s).sensors = s.sensors := rfl
@[simp] theorem clearDrive_faults (s : State) : (clearDrive s).faults = s.faults := rfl
@[simp] theorem clearDrive_counters (s : State) : (clearDrive s).counters = s.counters := rfl

/-! #### clearPumpMask -/

@[simp] theorem clearPumpMask_pending (s : State) : (clearPumpMask s).pending = s.pending := rfl
@[simp] theorem clearPumpMask_phase (s : State) : (clearPumpMask s).phase = s.phase := rfl
@[simp] theorem clearPumpMask_station (s : State) : (clearPumpMask s).station = s.station := rfl
@[simp] theorem clearPumpMask_dryStation (s : State) : (clearPumpMask s).dryStation = s.dryStation := rfl
@[simp] theorem clearPumpMask_config (s : State) : (clearPumpMask s).config = s.config := rfl
@[simp] theorem clearPumpMask_generator (s : State) : (clearPumpMask s).generator = s.generator := rfl
@[simp] theorem clearPumpMask_framePhase (s : State) : (clearPumpMask s).framePhase = s.framePhase := rfl
@[simp] theorem clearPumpMask_ticks (s : State) : (clearPumpMask s).ticks = s.ticks := rfl
@[simp] theorem clearPumpMask_line (s : State) : (clearPumpMask s).line = s.line := rfl
@[simp] theorem clearPumpMask_peers (s : State) : (clearPumpMask s).peers = s.peers := rfl
@[simp] theorem clearPumpMask_ltu (s : State) : (clearPumpMask s).ltu = s.ltu := rfl
@[simp] theorem clearPumpMask_ctl (s : State) : (clearPumpMask s).ctl = s.ctl := rfl
@[simp] theorem clearPumpMask_flash (s : State) : (clearPumpMask s).flash = s.flash := rfl
@[simp] theorem clearPumpMask_cues (s : State) : (clearPumpMask s).cues = s.cues := rfl
@[simp] theorem clearPumpMask_ctx (s : State) : (clearPumpMask s).ctx = s.ctx := rfl
@[simp] theorem clearPumpMask_jets (s : State) : (clearPumpMask s).jets = s.jets := rfl
@[simp] theorem clearPumpMask_lamp (s : State) : (clearPumpMask s).lamp = s.lamp := rfl
@[simp] theorem clearPumpMask_audio (s : State) : (clearPumpMask s).audio = s.audio := rfl
@[simp] theorem clearPumpMask_sensors (s : State) : (clearPumpMask s).sensors = s.sensors := rfl
@[simp] theorem clearPumpMask_locks (s : State) : (clearPumpMask s).locks = s.locks := rfl
@[simp] theorem clearPumpMask_faults (s : State) :
    (clearPumpMask s).faults = { s.faults with pumpMask := s.faults.pumpMask &&& tripMask s } := rfl
@[simp] theorem clearPumpMask_counters (s : State) : (clearPumpMask s).counters = s.counters := rfl

/-! #### sampleStraps -/

@[simp] theorem sampleStraps_pending (w : BitVec 5) (s : State) : (sampleStraps w s).pending = s.pending := rfl
@[simp] theorem sampleStraps_phase (w : BitVec 5) (s : State) : (sampleStraps w s).phase = .startUp := rfl
@[simp] theorem sampleStraps_station (w : BitVec 5) (s : State) : (sampleStraps w s).station = w.toNat := rfl
@[simp] theorem sampleStraps_dryStation (w : BitVec 5) (s : State) : (sampleStraps w s).dryStation = s.dryStation := rfl
@[simp] theorem sampleStraps_config (w : BitVec 5) (s : State) : (sampleStraps w s).config = s.config := rfl
@[simp] theorem sampleStraps_generator (w : BitVec 5) (s : State) :
    (sampleStraps w s).generator = Config.generatorSeed w.toNat := rfl
@[simp] theorem sampleStraps_framePhase (w : BitVec 5) (s : State) : (sampleStraps w s).framePhase = s.framePhase := rfl
@[simp] theorem sampleStraps_ticks (w : BitVec 5) (s : State) : (sampleStraps w s).ticks = s.ticks := rfl
@[simp] theorem sampleStraps_line (w : BitVec 5) (s : State) : (sampleStraps w s).line = s.line := rfl
@[simp] theorem sampleStraps_peers (w : BitVec 5) (s : State) : (sampleStraps w s).peers = s.peers := rfl
@[simp] theorem sampleStraps_ltu (w : BitVec 5) (s : State) : (sampleStraps w s).ltu = s.ltu := rfl
@[simp] theorem sampleStraps_ctl (w : BitVec 5) (s : State) : (sampleStraps w s).ctl = s.ctl := rfl
@[simp] theorem sampleStraps_flash (w : BitVec 5) (s : State) : (sampleStraps w s).flash = s.flash := rfl
@[simp] theorem sampleStraps_cues (w : BitVec 5) (s : State) : (sampleStraps w s).cues = s.cues := rfl
@[simp] theorem sampleStraps_ctx (w : BitVec 5) (s : State) : (sampleStraps w s).ctx = s.ctx := rfl
@[simp] theorem sampleStraps_jets (w : BitVec 5) (s : State) : (sampleStraps w s).jets = s.jets := rfl
@[simp] theorem sampleStraps_lamp (w : BitVec 5) (s : State) : (sampleStraps w s).lamp = s.lamp := rfl
@[simp] theorem sampleStraps_audio (w : BitVec 5) (s : State) : (sampleStraps w s).audio = s.audio := rfl
@[simp] theorem sampleStraps_sensors (w : BitVec 5) (s : State) : (sampleStraps w s).sensors = s.sensors := rfl
@[simp] theorem sampleStraps_locks (w : BitVec 5) (s : State) : (sampleStraps w s).locks = s.locks := rfl
@[simp] theorem sampleStraps_faults (w : BitVec 5) (s : State) : (sampleStraps w s).faults = s.faults := rfl
@[simp] theorem sampleStraps_counters (w : BitVec 5) (s : State) : (sampleStraps w s).counters = s.counters := rfl

end Sys2Proof.Machine
end

