-- ==== Sys2Proof/Laws/Clock.lean ====
section
/-! SUPPORT. What a millisecond tick does to the interlock inputs and to the timers (03 3.1, R184; log 4, log 16). -/

namespace Sys2Proof.Machine

/-- An input is at its active level when the level of its pin is the configured one. -/
@[simp] theorem activeInputs_getElem (c : Configuration) (levels : BitVec 14) (n : Fin 14) :
    (activeInputs c levels)[n] = (levels.getLsbD n.val == c.activeHigh.getLsbD n.val) := by simp [activeInputs]

/-- A tick changes no qualified state and no trip: it notes the levels and marks what qualifies. -/
theorem judgeInputs_frame (c : Configuration) (d : JetDrive) (levels : BitVec 14) (l : Interlocks) :
    judgeInputs c d levels l =
      { l with seen := some (activeInputs c levels), due := (judgeInputs c d levels l).due } := rfl

/-- An input is due after a tick if it was, or if it is judged and has stood at two ticks at the other level. -/
theorem judgeInputs_due (c : Configuration) (d : JetDrive) (levels : BitVec 14) (l : Interlocks) (n : Fin 14) :
    (judgeInputs c d levels l).due[n] =
      (l.due[n] || ((judgedInputs d)[n] &&
        levelQualifies (qualifiedStates l)[n] (activeInputs c levels)[n] (l.seen.map fun v => v[n]))) := by
  simp [judgeInputs]

/-- An input at the level of its qualified state does not qualify, and neither does one not seen at the tick before. -/
theorem levelQualifies_iff (qualified active : Bool) (seen : Option Bool) :
    levelQualifies qualified active seen = true ↔ active ≠ qualified ∧ seen = some active := by
  simp [levelQualifies]

/-- Before the 48th frame period of a millisecond no timer moves. -/
theorem countPeriod_within {s : State} (h : s.framePhase + 1 < 48) :
    countPeriod s = { s with framePhase := s.framePhase + 1 } := if_pos h

/-- The 48th ends the millisecond. -/
theorem countPeriod_tick {s : State} (h : 48 ≤ s.framePhase + 1) : countPeriod s = millisecond { s with framePhase := 0 } :=
  if_neg (Nat.not_lt.mpr h)

end Sys2Proof.Machine
end

