-- ==== Sys2Proof/Laws/Drive.lean ====
section
/-! SUPPORT. What the pump operations can do: each one touches the Jet Drive Unit, the Lamp Output's copies and the dry
timers, and no other part of the state (R144 to R151, R159, R183). -/

namespace Sys2Proof.Machine

/-- From s to t only the Jet Drive Unit, the Lamp Output and the Sensor Monitor differ. -/
def DriveFrame (s t : State) : Prop := t = { s with jets := t.jets, lamp := t.lamp, sensors := t.sensors }

/-- Only the dry timers of the Sensor Monitor differ. -/
def DryFrame (s t : State) : Prop := t = { s with sensors := { s.sensors with dryA := t.sensors.dryA, dryB := t.sensors.dryB } }

theorem DriveFrame.refl (s : State) : DriveFrame s s := rfl

theorem DriveFrame.trans {s t u : State} (h : DriveFrame s t) (g : DriveFrame t u) : DriveFrame s u := by
  unfold DriveFrame at *; rw [g, h]

theorem DryFrame.drive {s t : State} (h : DryFrame s t) : DriveFrame s t := by
  unfold DryFrame at h; rw [h]; rfl

/-! ### The requested speed (R129, R139) -/

/-- Outside ARMED the show state holds no jet down. -/
theorem jetsHeld_of_ne {x : ShowState} (h : x ≠ .armed) : jetsHeld x = false := by cases x <;> simp_all [jetsHeld]

/-- Jets are held down in ARMED alone, and there in a part whose jets do not rise in it (log 37). -/
theorem jetsHeld_iff (x : ShowState) : jetsHeld x = true ↔ x = .armed ∧ Config.armedJetsRise = false := by
  cases x <;> simp [jetsHeld]

/-- A jet held down asks for 0 while its pump is RUNNING, and a PRIMING pump for S_PRIME as ever. -/
theorem stageRequest_held {s : State} (wind : Nat) (j : Jet) (h : jetsHeld s.ctl.state = true) :
    (s.jets.pumps[j].state = .running → stageRequest s wind j = 0) ∧
    (s.jets.pumps[j].state = .priming → stageRequest s wind j = s.config.sPrime) := by
  constructor <;> intro hp <;> simp only [stageRequest, h, hp, requestedSpeed, if_true]

/-! ### Single operations -/

/-- Judging a dry condition moves a dry timer alone (R183). -/
theorem judgeDry_frame (m : Manifold) (s : State) : DryFrame s (judgeDry m s) := by cases m <;> rfl

theorem judgeDry_jets (m : Manifold) (s : State) : (judgeDry m s).jets = s.jets := by cases m <;> rfl

theorem judgeDry_lamp (m : Manifold) (s : State) : (judgeDry m s).lamp = s.lamp := by cases m <;> rfl

theorem stopDry_frame (m : Manifold) (s : State) : DryFrame s (stopDry m s) := by cases m <;> rfl

/-- Handing a speed on sets the copy and computes the bound lights (R159). -/
theorem handSpeed_frame (j : Jet) (v : Nat) (s : State) :
    handSpeed j v s = { s with lamp := (handSpeed j v s).lamp } := rfl

@[simp] theorem handSpeed_jets (j : Jet) (v : Nat) (s : State) : (handSpeed j v s).jets = s.jets := rfl

@[simp] theorem handSpeed_speeds (j : Jet) (v : Nat) (s : State) :
    (handSpeed j v s).lamp.speeds = s.lamp.speeds.set j v := rfl

/-- A stopped pump: its state set, its speeds and timers 0, the other pumps as they were (R144). -/
theorem stopPump_pumps (j : Jet) (x : PumpState) (s : State) :
    (stopPump j x s).jets.pumps =
      s.jets.pumps.set j { s.jets.pumps[j] with
        state := x, sReq := 0, sB := 0, sOut := 0, primeTimer := 0, runDownTimer := 0 } := by
  simp only [stopPump, judgeDry_jets, handSpeed_jets, setPump_jets]

/-- A stopped pump's new speed is handed on (R159). -/
theorem stopPump_speeds (j : Jet) (x : PumpState) (s : State) :
    (stopPump j x s).lamp.speeds = s.lamp.speeds.set j 0 := by
  simp only [stopPump, judgeDry_lamp, handSpeed_speeds, setPump_lamp]

theorem stopPump_causes (j : Jet) (x : PumpState) (s : State) : (stopPump j x s).jets.causes = s.jets.causes := by
  simp only [stopPump, judgeDry_jets, handSpeed_jets, setPump_jets]

theorem stopPump_frame (j : Jet) (x : PumpState) (s : State) : DriveFrame s (stopPump j x s) := by
  unfold stopPump; cases manifoldOf j <;> rfl

theorem startPriming_frame (j : Jet) (s : State) : DriveFrame s (startPriming j s) := by
  unfold startPriming; cases manifoldOf j <;> rfl

/-- A pump that starts priming keeps its speeds, its timer from 0 (R146). -/
theorem startPriming_pumps (j : Jet) (s : State) :
    (startPriming j s).jets.pumps = s.jets.pumps.set j { s.jets.pumps[j] with state := .priming, primeTimer := 0 } := by
  simp only [startPriming, judgeDry_jets, setPump_jets]

theorem primeIfReady_frame (j : Jet) (s : State) : DriveFrame s (primeIfReady j s) := by
  unfold primeIfReady; split
  · exact startPriming_frame j s
  · exact .refl s

theorem arriveParked_frame (j : Jet) (s : State) : DriveFrame s (arriveParked j s) :=
  (stopPump_frame j .parked s).trans (primeIfReady_frame j _)

theorem enterParking_frame (j : Jet) (s : State) : DriveFrame s (enterParking j s) := by
  simp only [enterParking]; split
  · exact (stopPump_frame j .parking s).trans (arriveParked_frame j _)
  · exact stopPump_frame j .parking s

theorem parkIfCaused_frame (j : Jet) (s : State) : DriveFrame s (parkIfCaused j s) := by
  unfold parkIfCaused
  split <;> first
    | exact .refl s
    | (split
       · exact .refl s
       · exact enterParking_frame j s)

theorem enterRunning_frame (j : Jet) (s : State) : DriveFrame s (enterRunning j s) := by
  refine DriveFrame.trans ?_ (parkIfCaused_frame j _)
  cases manifoldOf j <;> rfl

theorem faultDry_frame (j : Jet) (s : State) : DriveFrame s (faultDry j s) :=
  DriveFrame.trans (t := setPump j { s.jets.pumps[j] with dry := true } s) rfl (stopPump_frame j .faulted _)

theorem faultDrive_frame (j : Jet) (s : State) : DriveFrame s (faultDrive j s) := by
  unfold faultDrive; split
  · exact .refl s
  · exact DriveFrame.trans (t := setPump j { s.jets.pumps[j] with drive := true } s) rfl (stopPump_frame j .faulted _)

theorem faultDryOn_frame (m : Manifold) (j : Jet) (s : State) : DriveFrame s (faultDryOn m j s) := by
  unfold faultDryOn; split
  · exact faultDry_frame j s
  · exact .refl s

theorem releasePump_frame (j : Jet) (s : State) : DriveFrame s (releasePump j s) := by
  simp only [releasePump]
  split
  · split
    · rfl
    · refine DriveFrame.trans ?_ (arriveParked_frame j _)
      rfl
  · exact .refl s

theorem forceParked_frame (j : Jet) (s : State) : DriveFrame s (forceParked j s) := by
  unfold forceParked
  split <;> first
    | exact .refl s
    | exact stopPump_frame j .parked s

/-! ### Operations over every pump -/

/-- A property every single jet's operation keeps is kept by the operation over all jets. -/
theorem forJets_induct {f : Jet → State → State} (P : State → Prop) (hf : ∀ j s, P s → P (f j s)) {s : State} (h : P s) :
    P (forJets f s) := by
  unfold forJets
  generalize List.finRange 12 = l
  induction l generalizing s with
  | nil => exact h
  | cons j l ih => exact ih (hf j s h)

theorem forJets_frame {f : Jet → State → State} (hf : ∀ j s, DriveFrame s (f j s)) (s : State) :
    DriveFrame s (forJets f s) :=
  forJets_induct (P := DriveFrame s) (fun j u h => h.trans (hf j u)) (.refl s)

theorem refreshPriming_frame (s : State) : DriveFrame s (refreshPriming s) := by
  unfold refreshPriming
  split
  · split
    · exact .refl s
    · exact DriveFrame.trans (t := { s with jets := { s.jets with primeReady := some 0 } }) rfl (primeIfReady_frame 0 _)
  · rfl

theorem addCause_frame (which : ParkCause) (s : State) : DriveFrame s (addCause which s) :=
  DriveFrame.trans (t := { s with jets := { s.jets with causes := s.jets.causes.put which true } }) rfl
    ((forJets_frame parkIfCaused_frame _).trans (refreshPriming_frame _))

theorem removeCause_frame (which : ParkCause) (s : State) : DriveFrame s (removeCause which s) :=
  DriveFrame.trans (t := { s with jets := { s.jets with causes := s.jets.causes.put which false } }) rfl
    (refreshPriming_frame _)

theorem judgeLevel_frame (s : State) : DriveFrame s (judgeLevel s) := by
  simp only [judgeLevel]
  split
  · split
    · rfl
    · exact DriveFrame.trans (t := setLevelResume none s) rfl (addCause_frame _ _)
  · split
    · split
      · exact DriveFrame.trans (t := setLevelResume none s) rfl (removeCause_frame _ _)
      · rfl
    · rfl

theorem driveCompute_frame (s : State) : DriveFrame s (driveCompute s) := by
  simp only [driveCompute]
  refine DriveFrame.trans ?_ ((judgeDry_frame .b _).drive)
  refine DriveFrame.trans ?_ ((judgeDry_frame .a _).drive)
  refine DriveFrame.trans ?_ (forJets_frame (f := fun j s => handSpeed j s.jets.pumps[j].sOut s) (fun _ _ => rfl) _)
  rfl

/-! ### What a frame says of each field -/

theorem DriveFrame.fields {s t : State} (h : DriveFrame s t) :
    t.pending = s.pending ∧ t.phase = s.phase ∧ t.station = s.station ∧ t.config = s.config ∧ t.line = s.line ∧
    t.peers = s.peers ∧ t.ltu = s.ltu ∧ t.ctl = s.ctl ∧ t.flash = s.flash ∧ t.cues = s.cues ∧ t.ctx = s.ctx ∧
    t.audio = s.audio ∧ t.locks = s.locks ∧ t.faults = s.faults ∧ t.counters = s.counters ∧
    t.generator = s.generator ∧ t.framePhase = s.framePhase ∧ t.dryStation = s.dryStation := by
  unfold DriveFrame at h; rw [h]; simp

end Sys2Proof.Machine
end

