-- ==== Sys2Proof/Laws/Engine.lean ====
section
/-! SUPPORT. What an event's tasks can do: no task of the Flash Stream Engine or the Show Controller reaches the Line Port,
the Peer Table, the interlocks, the queue of commands, or line time but for the beacon schedule. -/

namespace Sys2Proof.Machine

/-- From s to t an event's task may differ in nothing named here. -/
def EventFrame (s t : State) : Prop :=
  t.pending = s.pending ∧ t.station = s.station ∧ t.framePhase = s.framePhase ∧ t.line = s.line ∧ t.peers = s.peers ∧
  t.locks = s.locks ∧ t.ltu = { s.ltu with beaconTimer := t.ltu.beaconTimer }

theorem EventFrame.refl (s : State) : EventFrame s s := ⟨rfl, rfl, rfl, rfl, rfl, rfl, rfl⟩

theorem EventFrame.trans {s t u : State} (h : EventFrame s t) (g : EventFrame t u) : EventFrame s u := by
  obtain ⟨h1, h2, h3, h4, h5, h6, h7⟩ := h
  obtain ⟨g1, g2, g3, g4, g5, g6, g7⟩ := g
  refine ⟨g1.trans h1, g2.trans h2, g3.trans h3, g4.trans h4, g5.trans h5, g6.trans h6, ?_⟩
  rw [g7, h7]

theorem DriveFrame.event {s t : State} (h : DriveFrame s t) : EventFrame s t := by
  obtain ⟨h1, -, h3, -, h5, h6, h7, -, -, -, -, -, h13, -, -, -, h17, -⟩ := h.fields
  exact ⟨h1, h3, h17, h5, h6, h13, by rw [h7]⟩

theorem setShow_event (x : ShowState) (s : State) : EventFrame s (setShow x s) := ⟨rfl, rfl, rfl, rfl, rfl, rfl, rfl⟩

theorem setControl_event (c : ShowController) (s : State) : EventFrame s { s with ctl := c } :=
  ⟨rfl, rfl, rfl, rfl, rfl, rfl, rfl⟩

theorem setSensors_event (m : SensorMonitor) (s : State) : EventFrame s { s with sensors := m } :=
  ⟨rfl, rfl, rfl, rfl, rfl, rfl, rfl⟩

theorem setMedia_event (c : CueQueue) (f : FlashEngine) (a : AudioUnit) (s : State) :
    EventFrame s { s with cues := c, flash := f, audio := a } := ⟨rfl, rfl, rfl, rfl, rfl, rfl, rfl⟩

/-! ### The Show Controller's acts -/

theorem teardown_event (s : State) : EventFrame s (teardown s) :=
  EventFrame.trans (by exact ⟨rfl, rfl, rfl, rfl, rfl, rfl, rfl⟩) (addCause_frame .ending _).event

theorem teardownToIdle_event (s : State) : EventFrame s (teardownToIdle s) :=
  (teardown_event s).trans ((setShow_event .idle _).trans (refreshPriming_frame _).event)

theorem enterEnding_event (f : Nat) (s : State) : EventFrame s (enterEnding f s) :=
  EventFrame.trans (by exact ⟨rfl, rfl, rfl, rfl, rfl, rfl, rfl⟩) (refreshPriming_frame _).event

theorem shortenFade_event (f : Nat) (e : LineTime) (s : State) : EventFrame s (shortenFade f e s) := by
  simp only [shortenFade]; split
  · exact ⟨rfl, rfl, rfl, rfl, rfl, rfl, rfl⟩
  · exact .refl s

theorem endRequest_event (f : Nat) (s : State) : EventFrame s (endRequest f s) := by
  unfold endRequest
  split
  · exact enterEnding_event f s
  · split
    · split
      · exact .refl s
      · exact shortenFade_event f _ s
    · exact .refl s
  · exact teardownToIdle_event s
  · exact teardownToIdle_event s
  · exact .refl s
  · exact .refl s

theorem armFail_event (s : State) : EventFrame s (armFail s) :=
  EventFrame.trans (t := latch .armFail s) ⟨rfl, rfl, rfl, rfl, rfl, rfl, rfl⟩ (teardownToIdle_event _)

theorem warmInput_event (i : AnalogInput) (s : State) : EventFrame s (warmInput i s) := by
  simp only [warmInput]; split <;> exact ⟨rfl, rfl, rfl, rfl, rfl, rfl, rfl⟩

theorem endWarmUp_event (s : State) : EventFrame s (endWarmUp s) :=
  (((warmInput_event .wind s).trans (warmInput_event .level _)).trans (warmInput_event .pressA _)).trans
    ((warmInput_event .pressB _).trans (setSensors_event _ _))

theorem startBlocks_event (s : State) : EventFrame s (startBlocks s) := by
  simp only [startBlocks]
  split
  · refine EventFrame.trans ?_ (endWarmUp_event _)
    exact ⟨rfl, rfl, rfl, rfl, rfl, rfl, rfl⟩
  · exact ⟨rfl, rfl, rfl, rfl, rfl, rfl, rfl⟩

theorem configurationTaken_event (content : PageContent) (s : State) : EventFrame s (configurationTaken content s) := by
  unfold configurationTaken
  split <;> (refine EventFrame.trans ?_ (startBlocks_event _); exact ⟨rfl, rfl, rfl, rfl, rfl, rfl, rfl⟩)

/-! ### Tasks -/

/-- A change of the engine alone. -/
theorem onFlash_event (g : FlashEngine → FlashEngine) (s : State) : EventFrame s (onFlash g s) :=
  ⟨rfl, rfl, rfl, rfl, rfl, rfl, rfl⟩

theorem latch_event (f : FaultSource) (s : State) : EventFrame s (latch f s) := ⟨rfl, rfl, rfl, rfl, rfl, rfl, rfl⟩

theorem takeHit_event (r : Requester) (page : Nat) (i : Fin 16) (s : State) : EventFrame s (takeHit r page i s).1 := by
  unfold takeHit
  split
  · cases r <;> exact onFlash_event _ s
  · exact .refl s
  · exact .refl s
  · exact .refl s

theorem doDemand_event (r : Requester) (page : Nat) (s : State) : EventFrame s (doDemand r page s).1 := by
  simp only [doDemand]
  split
  · split
    · exact takeHit_event r page _ s
    · exact ⟨rfl, rfl, rfl, rfl, rfl, rfl, rfl⟩
    · exact ⟨rfl, rfl, rfl, rfl, rfl, rfl, rfl⟩
    · exact .refl s
  · exact .refl s

theorem doPrefetch_event (p : Purpose) (x : Option StreamId) (page : Nat) (s : State) :
    EventFrame s (doPrefetch p x page s).1 := by
  unfold doPrefetch; split
  · exact ⟨rfl, rfl, rfl, rfl, rfl, rfl, rfl⟩
  · exact .refl s

theorem doPresent_event (r : Requester) (s : State) : EventFrame s (doPresent r s).1 := by
  unfold doPresent
  split
  · exact .refl s
  · split <;> (try split) <;> (try split) <;> exact .refl s

theorem openPage_event (content : PageContent) (p : ReaderPage) (s : State) : EventFrame s (openPage content p s) := by
  simp only [openPage]
  repeat' split
  all_goals exact ⟨rfl, rfl, rfl, rfl, rfl, rfl, rfl⟩

theorem doOccupy_event (x : StreamId) (s : State) : EventFrame s (doOccupy x s).1 := by
  unfold doOccupy
  split
  · exact .refl s
  · split
    · exact .refl s
    · split
      · cases x
        · exact (onFlash_event _ s).trans (openPage_event _ _ _)
        · exact onFlash_event _ s
      · exact .refl s
      · exact .refl s
      · exact .refl s

theorem indexFailure_event (b : Bool) (s : State) : EventFrame s (indexFailure b s).1 := by
  unfold indexFailure; split
  · exact armFail_event s
  · exact latch_event _ s

theorem recordArrives_event (x : StreamId) (rec : SegmentRecord) (use : LookupUse) (s : State) :
    EventFrame s (recordArrives x rec use s).1 := by
  unfold recordArrives
  cases use
  · exact onFlash_event _ s
  · exact onFlash_event _ s
  · exact onFlash_event _ s
  · exact .refl s

theorem doComplete_event (l : Lookup) (s : State) : EventFrame s (doComplete l s).1 := by
  unfold doComplete
  split
  · simp only
    split
    · split
      · exact (onFlash_event _ s).trans (setControl_event _ _)
      · split
        · exact (onFlash_event _ s).trans (recordArrives_event _ _ _ _)
        · exact (onFlash_event _ s).trans ((onFlash_event _ _).trans (indexFailure_event _ _))
    · exact onFlash_event _ s
  · exact .refl s

theorem doLookup_event (l : Lookup) (s : State) : EventFrame s (doLookup l s).1 := by
  unfold doLookup
  split
  · exact .refl s
  · split
    · exact .refl s
    · split
      · exact onFlash_event _ s
      · simp only
        split
        · exact onFlash_event _ s
        · split
          · split <;> exact onFlash_event _ s
          · exact onFlash_event _ s

theorem indexArrived_event (page : Nat) (content : PageContent) (s : State) :
    EventFrame s (indexArrived page content s).1 := by
  unfold indexArrived
  split
  · exact .refl s
  · simp only
    split
    · exact onFlash_event _ s
    · split
      · exact (onFlash_event _ s).trans (indexFailure_event _ _)
      · exact onFlash_event _ s

theorem directoryTaken_event (content : PageContent) (s : State) : EventFrame s (directoryTaken content s).1 := by
  unfold directoryTaken
  split
  · exact .refl s
  · split
    · exact ⟨rfl, rfl, rfl, rfl, rfl, rfl, rfl⟩
    · exact armFail_event s

theorem headerTaken_event (content : PageContent) (s : State) : EventFrame s (headerTaken content s).1 := by
  unfold headerTaken
  split
  · exact .refl s
  · split
    · exact ⟨rfl, rfl, rfl, rfl, rfl, rfl, rfl⟩
    · exact armFail_event s

theorem doHanded_event (p : Purpose) (page : Nat) (content : PageContent) (s : State) :
    EventFrame s (doHanded p page content s).1 := by
  unfold doHanded
  cases p <;> simp only
  · split
    · exact configurationTaken_event content s
    · exact .refl s
  · split
    · exact directoryTaken_event content s
    · exact .refl s
  · split
    · exact headerTaken_event content s
    · exact .refl s
  · exact indexArrived_event page content s
  · exact .refl s
  · exact .refl s

theorem leaveAudio_event (s : State) : EventFrame s (leaveAudio s) := by
  unfold leaveAudio; split
  · exact .refl s
  · exact ⟨rfl, rfl, rfl, rfl, rfl, rfl, rfl⟩

theorem leaveCue_event (s : State) : EventFrame s (leaveCue s) := by
  unfold leaveCue; split
  · exact .refl s
  · exact onFlash_event _ s

theorem crossSegment_event (x : StreamId) (c : SegmentRecord) (t : Task) (s : State) :
    EventFrame s (crossSegment x c t s).1 := by
  unfold crossSegment
  simp only
  split
  · exact onFlash_event _ s
  · split
    · exact .refl s
    · split
      · exact onFlash_event _ s
      · exact .refl s

theorem crossAudio_event (c : SegmentRecord) (start : Nat) (s : State) : EventFrame s (crossAudio c start s).1 :=
  (leaveAudio_event s).trans ((onFlash_event _ _).trans (crossSegment_event _ _ _ _))

theorem doMoveAudio_event (a : Int) (s : State) : EventFrame s (doMoveAudio a s).1 := by
  unfold doMoveAudio
  split
  · exact (leaveAudio_event s).trans (onFlash_event _ _)
  · split
    · exact .refl s
    · simp only
      split
      · split
        · exact crossAudio_event _ _ s
        · split
          · exact (leaveAudio_event s).trans ((onFlash_event _ _).trans (onFlash_event _ _))
          · exact .refl s
      · exact .refl s

theorem doEnterAudio_event (s : State) : EventFrame s (doEnterAudio s).1 := by
  unfold doEnterAudio
  split
  · split
    · exact crossAudio_event _ _ s
    · exact (onFlash_event _ s).trans (onFlash_event _ _)
  · exact .refl s

theorem doEarlyDemand_event (a : Int) (s : State) : EventFrame s (doEarlyDemand a s).1 := by
  unfold doEarlyDemand
  simp only
  split
  · exact .refl s
  · split
    · split
      · split
        · exact (onFlash_event _ s).trans (onFlash_event _ _)
        · exact onFlash_event _ s
      · exact onFlash_event _ s
    · exact .refl s

theorem underrunFrame_event (s : State) : EventFrame s (underrunFrame s) := by
  simp only [underrunFrame]; split <;> exact ⟨rfl, rfl, rfl, rfl, rfl, rfl, rfl⟩

theorem playFrame_event (a : Nat) (s : State) : EventFrame s (playFrame a s) := by
  unfold playFrame
  split
  · exact underrunFrame_event s
  · simp only; split <;> exact ⟨rfl, rfl, rfl, rfl, rfl, rfl, rfl⟩

theorem doFormFrame_event (a : Int) (s : State) : EventFrame s (doFormFrame a s).1 := by
  unfold doFormFrame; split
  · exact playFrame_event _ s
  · exact ⟨rfl, rfl, rfl, rfl, rfl, rfl, rfl⟩

theorem onReader_event (g : CueReader → CueReader) (s : State) : EventFrame s (onReader g s) :=
  ⟨rfl, rfl, rfl, rfl, rfl, rfl, rfl⟩

theorem takeCuePage_event (place : ReaderPage) (s : State) : EventFrame s (takeCuePage place s).1 :=
  (leaveCue_event s).trans ((onFlash_event _ _).trans (onReader_event _ _))

theorem doCrossCue_event (s : State) : EventFrame s (doCrossCue s).1 := by
  unfold doCrossCue
  simp only
  split
  · exact onReader_event _ s
  · exact (onReader_event _ s).trans (crossSegment_event _ _ _ _)

theorem doEnterCue_event (s : State) : EventFrame s (doEnterCue s).1 := by
  unfold doEnterCue
  split
  · exact .refl s
  · simp only
    split
    · exact onReader_event _ s
    · split
      · exact onReader_event _ s
      · split
        · exact (onReader_event _ s).trans (onFlash_event _ _)
        · exact (onReader_event _ s).trans (takeCuePage_event _ _)

theorem doAdvanceCue_event (s : State) : EventFrame s (doAdvanceCue s).1 := by
  unfold doAdvanceCue
  split
  · simp only
    split
    · exact onReader_event _ s
    · split
      · exact onReader_event _ s
      · exact (onReader_event _ s).trans (takeCuePage_event _ _)
  · exact .refl s

theorem flashThenReader_event (g : FlashEngine → FlashEngine) (r : CueReader → CueReader) (s : State) :
    EventFrame s (onReader r (onFlash g s)) := (onFlash_event g s).trans (onReader_event r _)

theorem doJudgeCue_event (s : State) : EventFrame s (doJudgeCue s).1 := by
  unfold doJudgeCue
  split
  · split
    · exact .refl s
    · split
      · exact .refl s
      · split
        · show EventFrame s (onReader _ (leaveCue (latch .cueLost s)))
          exact ((latch_event _ s).trans (leaveCue_event _)).trans (onReader_event _ _)
        · exact flashThenReader_event (leavePage .cue _) (fun r => { r with retry := true }) s
  · exact .refl s

/-- A record read in catch-up reaches the contexts and the counters alone (R106). -/
theorem catchUpRecord_event {q : Int} {k : Bool} {record : List Byte} {s t : State}
    (h : catchUpRecord q k record s = .read t) : EventFrame s t := by
  simp only [catchUpRecord] at h
  split at h
  · cases h
  · split at h
    · split at h
      · cases h; exact ⟨rfl, rfl, rfl, rfl, rfl, rfl, rfl⟩
      · cases h
    · split at h
      · cases h
      · split at h
        · cases h; exact ⟨rfl, rfl, rfl, rfl, rfl, rfl, rfl⟩
        · split at h
          · cases h; exact .refl _
          · cases h

theorem doCatchUp_event (s : State) : EventFrame s (doCatchUp s).1 := by
  unfold doCatchUp
  split
  · split
    · exact onReader_event _ s
    · exact catchUpRecord_event (by assumption)
    · exact .refl s
  · exact .refl s

theorem doStartTest_event (s : State) : EventFrame s (doStartTest s).1 := by
  unfold doStartTest
  split
  · split
    · exact .refl s
    · split
      · exact ⟨rfl, rfl, rfl, rfl, rfl, rfl, rfl⟩
      · split <;> exact ⟨rfl, rfl, rfl, rfl, rfl, rfl, rfl⟩
  · exact .refl s

theorem doReSeek_event (s : State) : EventFrame s (doReSeek s).1 := by
  unfold doReSeek
  split
  · exact .refl s
  · split
    · split <;> exact .refl s
    · split
      · exact ⟨rfl, rfl, rfl, rfl, rfl, rfl, rfl⟩
      · exact .refl s
    · exact .refl s
    · exact .refl s
    · exact .refl s
    · exact .refl s

theorem givePermit_event (s : State) : EventFrame s (givePermit s) := by
  unfold givePermit
  split
  · exact (setControl_event _ s).trans (refreshPriming_frame _).event
  · exact .refl s

/-- No task reaches beyond the engine and the show. -/
theorem perform_event (t : Task) (s : State) : EventFrame s (perform t s).1 := by
  cases t with
  | demand r page => exact doDemand_event r page s
  | prefetch p x page => exact doPrefetch_event p x page s
  | present r => exact doPresent_event r s
  | represent => simp only [perform, doRepresent]; split <;> exact ⟨rfl, rfl, rfl, rfl, rfl, rfl, rfl⟩
  | occupy x => exact doOccupy_event x s
  | handed p page content => exact doHanded_event p page content s
  | lookup l => exact doLookup_event l s
  | complete l => exact doComplete_event l s
  | retryIndex page => simp only [perform, doRetryIndex]; split <;> (try split) <;> exact .refl s
  | indexAhead segment => simp only [perform, doIndexAhead]; split <;> (try split) <;> exact .refl s
  | startStream x position catchUp =>
    simp only [perform, doStartStream]
    split
    · cases x <;> exact ⟨rfl, rfl, rfl, rfl, rfl, rfl, rfl⟩
    · exact .refl s
  | begin x position =>
    simp only [perform, doBegin]
    split
    · exact .refl s
    · split
      · exact .refl s
      · exact onFlash_event _ s
  | window x => simp only [perform, doWindow]; split <;> exact .refl s
  | startOfPage x =>
    simp only [perform, doStartOfPage]
    split
    · exact .refl s
    · exact onFlash_event _ s
  | moveAudio a => exact doMoveAudio_event a s
  | enterAudio => exact doEnterAudio_event s
  | earlyDemand a => exact doEarlyDemand_event a s
  | showEnd a => simp only [perform, doShowEnd]; split <;> exact .refl s
  | formFrame a => exact doFormFrame_event a s
  | crossCue => exact doCrossCue_event s
  | enterCue => exact doEnterCue_event s
  | judgeCue => exact doJudgeCue_event s
  | advanceCue => exact doAdvanceCue_event s
  | catchUp => exact doCatchUp_event s
  | endShow fade => exact endRequest_event fade s
  | permit => exact givePermit_event s
  | checkArmed => simp only [perform, doCheckArmed]; split <;> exact ⟨rfl, rfl, rfl, rfl, rfl, rfl, rfl⟩
  | startTest => exact doStartTest_event s
  | seek q => exact setMedia_event _ _ _ s
  | reSeek => exact doReSeek_event s

/-! ### The tasks of an event -/

@[simp] theorem work_nil (n : Nat) (s : State) : work n [] s = s := by cases n <;> rfl

@[simp] theorem work_cons (n : Nat) (t : Task) (rest : List Task) (s : State) :
    work (n + 1) (t :: rest) s = work n ((perform t s).2 ++ rest) (perform t s).1 := rfl

/-- A property every task keeps is kept by an event's tasks. -/
theorem work_induct {P : State → Prop} (hP : ∀ t s, P s → P (perform t s).1) (n : Nat) (ts : List Task) {s : State}
    (h : P s) : P (work n ts s) := by
  induction n generalizing ts s with
  | zero => exact h
  | succ n ih =>
    cases ts with
    | nil => exact h
    | cons t rest => exact ih _ (hP t s h)

theorem work_event (n : Nat) (ts : List Task) (s : State) : EventFrame s (work n ts s) :=
  work_induct (P := EventFrame s) (fun t u h => h.trans (perform_event t u)) n ts (.refl s)

/-- An event's tasks, to its end, reach the engine and the show alone. -/
theorem settle_event (ts : List Task) (s : State) : EventFrame s (settle ts s) :=
  (work_event _ _ s).trans (onFlash_event _ _)

/-- After the event no freed slot is left to answer (R80). -/
@[simp] theorem settle_slotFreed (ts : List Task) (s : State) : (settle ts s).flash.slotFreed = false := rfl

/-- After the event no demand counts as rejected in it (R80). -/
@[simp] theorem settle_heldNow (ts : List Task) (s : State) : (settle ts s).flash.heldNow = [] := rfl

/-- With nothing to do, no event in hand and the state not ARMING, the end of an event changes nothing. -/
theorem settle_nil {s : State} (h : s.flash.slotFreed = false) (hn : s.flash.heldNow = []) (ha : s.ctl.state ≠ .arming) : settle [] s = s := by
  have hc : perform .checkArmed s = (s, []) := by simp [perform, doCheckArmed, ha]
  have hr : perform .represent s = (s, []) := by simp [perform, doRepresent, h]
  have hw : ∀ n, work (n + 3) endOfEvent s = s := by
    intro n
    simp only [endOfEvent, work_cons, hc, hr, List.nil_append, work_nil]
  have hf : onFlash (fun f => { f with slotFreed := false, heldNow := [] }) s = s := by
    unfold onFlash; rw [← h, ← hn]
  unfold settle
  rw [List.nil_append, show workLimit = 65533 + 3 from rfl, hw, hf]

end Sys2Proof.Machine
end

