-- ==== Sys2Proof/Laws/Lists.lean ====
section
/-! SUPPORT. The ordered lists of the part: the cue queue's places (R116), the peer table's places (R20), the sorted
samples (R43), the arbiter's choice (R72). -/

namespace Sys2Proof.Machine

/-! ### The Cue Queue (R116) -/

/-- An entry joins; none is lost. -/
@[simp] theorem insertCue_length (e : CueEntry) (q : List CueEntry) : (insertCue e q).length = q.length + 1 := by
  induction q with
  | nil => rfl
  | cons x q ih => simp only [insertCue]; split <;> simp [ih]

/-- The entry is put after entries whose due is not after its own and right before one whose due is. -/
theorem insertCue_split (e : CueEntry) (q : List CueEntry) :
    ∃ before after, insertCue e q = before ++ e :: after ∧ q = before ++ after ∧
      (∀ x ∈ before, isAfter x.due e.due = false) ∧ ∀ x rest, after = x :: rest → isAfter x.due e.due = true := by
  induction q with
  | nil => exact ⟨[], [], rfl, rfl, by simp, by simp⟩
  | cons x q ih =>
    simp only [insertCue]
    split
    · exact ⟨[], x :: q, rfl, rfl, by simp, by rintro y rest ⟨⟩; assumption⟩
    · rename_i hn
      obtain ⟨b, a, h1, h2, h3, h4⟩ := ih
      refine ⟨x :: b, a, by rw [h1]; rfl, by rw [h2]; rfl, ?_, h4⟩
      intro y hy
      rcases List.mem_cons.mp hy with rfl | hy
      · exact Bool.eq_false_iff.mpr hn
      · exact h3 y hy

/-- Entries of a source are counted as before, one more for one's own. -/
theorem insertCue_filter_length (p : CueEntry → Bool) (e : CueEntry) (q : List CueEntry) :
    ((insertCue e q).filter p).length = (q.filter p).length + if p e then 1 else 0 := by
  obtain ⟨b, a, h1, h2, -, -⟩ := insertCue_split e q
  rw [h1, h2]
  simp only [List.filter_append, List.length_append, List.filter_cons]
  split <;> simp <;> omega

/-! ### The Peer Table (R20, R21, R22) -/

/-- A record put is in the table. -/
theorem putPeer_mem_self (p : PeerRecord) (l : List PeerRecord) : p ∈ putPeer p l := by
  induction l with
  | nil => simp [putPeer]
  | cons q l ih => simp only [putPeer]; split <;> (try split) <;> simp [ih]

/-- A record of the table after a put is the one put or one that was there. -/
theorem putPeer_mem {p r : PeerRecord} {l : List PeerRecord} (h : r ∈ putPeer p l) : r = p ∨ r ∈ l := by
  induction l with
  | nil => simpa [putPeer] using h
  | cons q l ih =>
    simp only [putPeer] at h
    split at h
    · simpa using h
    · split at h
      · rcases List.mem_cons.mp h with h | h
        · exact .inl h
        · exact .inr (List.mem_cons_of_mem _ h)
      · rcases List.mem_cons.mp h with h | h
        · exact .inr (h ▸ List.mem_cons_self)
        · exact (ih h).imp_right (List.mem_cons_of_mem _)

/-- A put keeps the station order (R20). -/
theorem putPeer_sorted (p : PeerRecord) {l : List PeerRecord}
    (h : l.Pairwise (fun a b => a.station < b.station)) :
    (putPeer p l).Pairwise (fun a b => a.station < b.station) := by
  induction l with
  | nil => simp [putPeer]
  | cons q l ih =>
    rw [List.pairwise_cons] at h
    simp only [putPeer]
    split
    · rename_i hlt
      refine List.pairwise_cons.mpr ⟨?_, List.pairwise_cons.mpr h⟩
      intro r hr
      rcases List.mem_cons.mp hr with rfl | hr
      · exact hlt
      · exact Nat.lt_trans hlt (h.1 r hr)
    · split
      · rename_i heq
        exact List.pairwise_cons.mpr ⟨fun r hr => heq ▸ h.1 r hr, h.2⟩
      · rename_i hlt hne
        refine List.pairwise_cons.mpr ⟨?_, ih h.2⟩
        intro r hr
        rcases putPeer_mem hr with rfl | hr
        · omega
        · exact h.1 r hr

/-- A put adds at most one record. -/
theorem putPeer_length_le (p : PeerRecord) (l : List PeerRecord) : (putPeer p l).length ≤ l.length + 1 := by
  induction l with
  | nil => simp [putPeer]
  | cons q l ih => simp only [putPeer]; split <;> (try split) <;> simp <;> omega

/-- The oldest record is in the table, and no record is older (R22). -/
theorem oldestPeer_spec {l : List PeerRecord} {p : PeerRecord} (h : oldestPeer l = some p) :
    p ∈ l ∧ ∀ q ∈ l, q.age ≤ p.age := by
  induction l generalizing p with
  | nil => simp [oldestPeer] at h
  | cons x l ih =>
    simp only [oldestPeer] at h
    split at h
    · rename_i hn
      cases l with
      | nil => cases h; simp
      | cons y l =>
        exfalso
        simp only [oldestPeer] at hn
        split at hn
        · cases hn
        · split at hn <;> cases hn
    · rename_i q hq
      obtain ⟨hm, ha⟩ := ih hq
      split at h
      · cases h
        refine ⟨List.mem_cons_self, fun r hr => ?_⟩
        rcases List.mem_cons.mp hr with rfl | hr
        · exact Nat.le_refl _
        · exact Nat.le_trans (ha r hr) (by assumption)
      · cases h
        refine ⟨List.mem_cons_of_mem _ hm, fun r hr => ?_⟩
        rcases List.mem_cons.mp hr with rfl | hr
        · omega
        · exact ha r hr

/-! ### Sorted samples (R43) -/

/-- A value put in its place: the same values. -/
theorem insertSorted_perm (v : Int) (l : List Int) : (insertSorted v l).Perm (v :: l) := by
  induction l with
  | nil => exact List.Perm.refl _
  | cons x l ih =>
    simp only [insertSorted]
    split
    · exact List.Perm.refl _
    · exact (List.Perm.cons x ih).trans (List.Perm.swap v x l)

/-- The sorted list has the same values. -/
theorem sortInts_perm (l : List Int) : (sortInts l).Perm l := by
  induction l with
  | nil => exact List.Perm.refl _
  | cons x l ih => exact (insertSorted_perm x _).trans (List.Perm.cons x ih)

/-- A value put in its place keeps the order. -/
theorem insertSorted_sorted (v : Int) {l : List Int} (h : l.Pairwise (· ≤ ·)) :
    (insertSorted v l).Pairwise (· ≤ ·) := by
  induction l with
  | nil => simp [insertSorted]
  | cons x l ih =>
    rw [List.pairwise_cons] at h
    simp only [insertSorted]
    split
    · rename_i hle
      refine List.pairwise_cons.mpr ⟨fun y hy => ?_, List.pairwise_cons.mpr h⟩
      rcases List.mem_cons.mp hy with rfl | hy
      · exact hle
      · exact Int.le_trans hle (h.1 y hy)
    · refine List.pairwise_cons.mpr ⟨fun y hy => ?_, ih h.2⟩
      rcases List.mem_cons.mp ((insertSorted_perm v l).mem_iff.mp hy) with rfl | hy
      · omega
      · exact h.1 y hy

/-- The sorted list is in ascending order. -/
theorem sortInts_sorted (l : List Int) : (sortInts l).Pairwise (· ≤ ·) := by
  induction l with
  | nil => simp [sortInts]
  | cons x l ih => exact insertSorted_sorted x ih

/-! ### The request queue (R72) -/

/-- With a WAITING entry there is a choice. -/
theorem arbiterChoice_ne_none {q : List QueueEntry} {y : QueueEntry} (hy : y ∈ q) (hyw : y.state = .waiting) :
    arbiterChoice q ≠ none := by
  induction q with
  | nil => simp at hy
  | cons x q ih =>
    simp only [arbiterChoice]
    split
    · rename_i hn
      rcases List.mem_cons.mp hy with rfl | hy
      · simp [hyw]
      · exact absurd hn (ih hy)
    · split <;> simp

/-- What the arbiter picks is a WAITING entry of the queue, and no WAITING entry is of a lower class. -/
theorem arbiterChoice_spec {q : List QueueEntry} {e : QueueEntry} (h : arbiterChoice q = some e) :
    e ∈ q ∧ e.state = .waiting ∧ ∀ x ∈ q, x.state = .waiting → entryClass e ≤ entryClass x := by
  induction q generalizing e with
  | nil => simp [arbiterChoice] at h
  | cons x q ih =>
    simp only [arbiterChoice] at h
    split at h
    · rename_i hn
      split at h
      · rename_i hw
        cases h
        refine ⟨List.mem_cons_self, hw, fun y hy hyw => ?_⟩
        rcases List.mem_cons.mp hy with rfl | hy
        · exact Nat.le_refl _
        · exact absurd hn (arbiterChoice_ne_none hy hyw)
      · cases h
    · rename_i b hb
      obtain ⟨hm, hw, hc⟩ := ih hb
      split at h
      · rename_i hx
        cases h
        refine ⟨List.mem_cons_self, hx.1, fun y hy hyw => ?_⟩
        rcases List.mem_cons.mp hy with rfl | hy
        · exact Nat.le_refl _
        · exact Nat.le_trans hx.2 (hc y hy hyw)
      · rename_i hx
        cases h
        refine ⟨List.mem_cons_of_mem _ hm, hw, fun y hy hyw => ?_⟩
        rcases List.mem_cons.mp hy with rfl | hy
        · exact Nat.le_of_not_le fun hle => hx ⟨hyw, hle⟩
        · exact hc y hy hyw

/-- A change of the entries of one page changes no page number of the queue, if it keeps the page. -/
theorem updateEntry_pages (page : Nat) {g : QueueEntry → QueueEntry} (hg : ∀ e, (g e).page = e.page)
    (q : List QueueEntry) : (updateEntry page g q).map (·.page) = q.map (·.page) := by
  simp only [updateEntry, List.map_map]
  apply List.map_congr_left
  intro e _
  simp only [Function.comp]
  split <;> simp [hg]

end Sys2Proof.Machine
end

