-- ==== Sys2Proof/Laws/Ranges.lean ====
section
/-! SUPPORT. What the shared computations can give: bounds of counters, timers, sensor values, speeds and factors. -/

namespace Sys2Proof.Machine

/-! ### Counters and timers -/

/-- A counter never passes 65,535 (R196). -/
theorem bump_le (n : Nat) : bump n ≤ 65535 := Nat.min_le_right _ _

/-- A counter raised by k never passes 65,535 (R196). -/
theorem bumpBy_le (k n : Nat) : bumpBy k n ≤ 65535 := Nat.min_le_right _ _

/-- A stopped timer stays stopped. -/
@[simp] theorem timerTick_none (top : Nat) : timerTick top none = none := rfl

@[simp] theorem timerShows_none (n : Nat) : timerShows n none = false := rfl

@[simp] theorem timerShows_some (n t : Nat) : timerShows n (some t) = decide (n ≤ t) := rfl

/-- A running timer never passes its top. -/
theorem timerTick_le {top t u : Nat} (h : timerTick top (some t) = some u) : u ≤ top := by
  simp [timerTick] at h; omega

/-! ### Line time -/

/-- N's rule with its numbers written out (R39). -/
theorem nextControlAfter_eq (lt : LineTime) :
    nextControlAfter lt =
      if (lt.toNat / 480 + 1) * 480 < 2 ^ 32 then BitVec.ofNat 32 ((lt.toNat / 480 + 1) * 480) else 0#32 := rfl

/-- N is a multiple of 480 (R39). -/
theorem nextControlAfter_mod (lt : LineTime) : (nextControlAfter lt).toNat % 480 = 0 := by
  rw [nextControlAfter_eq]
  split
  · rename_i h
    rw [BitVec.toNat_ofNat, Nat.mod_eq_of_lt h, Nat.mul_mod_left]
  · rfl

/-- Below 2^32 N lies above LT and at most 480 above it (R39). -/
theorem nextControlAfter_above {lt : LineTime} (h : lt.toNat < 4294967040) :
    lt.toNat < (nextControlAfter lt).toNat ∧ (nextControlAfter lt).toNat ≤ lt.toNat + 480 := by
  have hb : (lt.toNat / 480 + 1) * 480 < 2 ^ 32 := by omega
  rw [nextControlAfter_eq, if_pos hb, BitVec.toNat_ofNat, Nat.mod_eq_of_lt hb]
  omega

/-! ### Sensors -/

/-- The filter moves toward the scaled value and never past it (R178). -/
theorem filterWind_between (w f : Nat) : min w f ≤ filterWind w f ∧ filterWind w f ≤ max w f := by
  unfold filterWind
  rcases Nat.le_total f w with h | h
  · have h0 : (0 : Int) ≤ (w : Int) - f := by omega
    rw [Int.tdiv_eq_ediv_of_nonneg h0]; omega
  · have h0 : (0 : Int) ≤ (f : Int) - w := by omega
    have hneg : (w : Int) - f = -((f : Int) - w) := by omega
    rw [hneg, Int.neg_tdiv, Int.tdiv_eq_ediv_of_nonneg h0]; omega

/-- A scaled value lies in its input's range (R175). -/
theorem scaleRaw_le (top : Nat) (k : Scaling) (raw : BitVec 12) : scaleRaw top k raw ≤ top := by
  unfold scaleRaw clampInt; omega

/-! ### The Jet Drive Unit -/

/-- The wind factor is at most 1,000 ‰ (R138). -/
theorem windFactor_le (low high trip w : Nat) : windFactor low high trip w ≤ 1000 := by
  unfold windFactor
  split
  · exact Nat.le_refl _
  · split
    · exact Nat.sub_le _ _
    · split <;> omega

/-- The power factor is at most 1,000 (R141). -/
theorem powerFactor_le (limit total : Nat) : powerFactor limit total ≤ 1000 := by
  unfold powerFactor
  split
  · exact Nat.le_refl _
  · split
    · exact Nat.le_refl _
    · exact Nat.div_le_of_le_mul (by
        rename_i h; rw [Nat.mul_comm]; exact Nat.mul_le_mul_right _ (Nat.le_of_not_le h))

/-- k × T is at most 1,000 × L for a limited feed (R141). -/
theorem powerFactor_mul_le {limit : Nat} (total : Nat) (h : limit ≠ 0) :
    powerFactor limit total * total ≤ 1000 * limit := by
  unfold powerFactor
  rw [if_neg h]
  split
  · exact Nat.mul_le_mul_left _ (by assumption)
  · exact Nat.div_mul_le_self _ _

/-- The cube of a found root is at most the number (R141). -/
theorem cubeRootBelow_cube_le (c n : Nat) : cubeRootBelow c n ^ 3 ≤ n := by
  induction c with
  | zero => simp [cubeRootBelow]
  | succ c ih => simp only [cubeRootBelow]; split <;> assumption

/-- A found root lies within its bound. -/
theorem cubeRootBelow_le (c n : Nat) : cubeRootBelow c n ≤ c := by
  induction c with
  | zero => simp [cubeRootBelow]
  | succ c ih => simp only [cubeRootBelow]; split <;> omega

/-- No larger value within the bound has a cube that is at most the number (R141). -/
theorem cubeRootBelow_largest {c n d : Nat} (hd : d ≤ c) (h : d ^ 3 ≤ n) : d ≤ cubeRootBelow c n := by
  induction c with
  | zero => simpa [cubeRootBelow] using hd
  | succ c ih =>
    simp only [cubeRootBelow]
    split
    · exact hd
    · rename_i hn
      rcases Nat.lt_or_ge d (c + 1) with hlt | hge
      · exact ih (Nat.lt_succ_iff.mp hlt)
      · have : d = c + 1 := Nat.le_antisymm hd hge
        exact absurd (this ▸ h) hn

/-- c³ is at most k × 10⁶ (R141). -/
theorem rootFactor_cube_le (k : Nat) : rootFactor k ^ 3 ≤ k * 10 ^ 6 := cubeRootBelow_cube_le _ _

/-- c lies in 0 to 1,000 (R141). -/
theorem rootFactor_le (k : Nat) : rootFactor k ≤ 1000 := cubeRootBelow_le _ _

/-- The output speed never passes the budgeted speed (R143). -/
theorem outputSpeed_le (accel prev b : Nat) : outputSpeed accel prev b ≤ b := by
  unfold outputSpeed; split <;> omega

/-- The budgeted speed is at most the requested speed's share c (R142). -/
theorem budgetedSpeed_le (state : PumpState) (sMin sReq c : Nat) :
    budgetedSpeed state sMin sReq c ≤ sReq * c / 1000 := by
  simp only [budgetedSpeed]; split
  · exact Nat.zero_le _
  · exact Nat.le_refl _

/-! ### Ramps (R127) -/

/-- A ramp has reached its target from its end on. -/
theorem rampValue_end {v0 v1 : Int} {t0 t1 t : LineTime} (h : atOrAfter t t1 = true) : rampValue v0 v1 t0 t1 t = v1 := by
  simp [rampValue, h]

/-- A ramp of no length has reached its target at its start. -/
theorem rampValue_instant (v0 v1 : Int) (t : LineTime) : rampValue v0 v1 t t t = v1 :=
  rampValue_end (by simp [atOrAfter, ltDiff])

/-- A layer at rest has its value at every LT from its start on. -/
theorem natLayerAt_rest (v : Nat) (t : LineTime) : natLayerAt t (Layer.rest v t) = v := by
  simp [natLayerAt, Layer.rest, rampValue_instant]

end Sys2Proof.Machine
end

