-- ==== Sys2Proof/WellFormed.lean ====
section
/-! DEFINITION. Which commands are well formed: a removed peer has a station number, a mismatched bit lies inside the
longest frame. Every other operand is bounded by its type. -/

namespace Sys2Proof

/-- The bits of the longest frame the part sends: STATUS, 86 bytes of 10 bits (1.2, R2). -/
def longestSentBits : Nat := 860

/-- A command's operands are ones the part can meet. -/
def Instr.wellFormed : Instr → Bool
  | .peerRemoval station => 1 ≤ station && station ≤ 31
  | .attemptFailed bit => bit < longestSentBits
  | .reset => true
  | .startUpSequence _ => true
  | .lineIdleDetection => true
  | .lineBusy => true
  | .deferralExpiry => true
  | .attemptSucceeded => true
  | .beaconPoint => true
  | .slewAction => true
  | .frameBoundary => true
  | .startReached => true
  | .controlInstant => true
  | .lampFrameDone => true
  | .primingStart _ => true
  | .primeEnd _ => true
  | .runDownEnd _ => true
  | .sensorSample _ _ => true
  | .warmUpEnd => true
  | .secondBoundary => true
  | .dryRunDetection _ => true
  | .estopAsserted => true
  | .estopReleased => true
  | .auxAsserted => true
  | .auxReleased => true
  | .driveFaultAsserted _ => true
  | .driveFaultReleased _ => true
  | .flashReady => true
  | .flashTimeout => true
  | .retirement _ _ => true
  | .trackCueTaken => true
  | .byteReceived _ => true

end Sys2Proof
end

