-- ==== Sys2Proof/Tests/Slice0.lean ====
section
/-! SUPPORT. Tests. Expected values come from the spec's worked examples and tables, or from its formulas worked by hand;
each test names its source. The last part holds, for each obligation, states that meet its hypotheses. -/

namespace Sys2Proof.Tests

open Sys2Proof Sys2Proof.Machine

/-! ### Builders -/

/-- The state an outcome leads to. -/
def after (o : Host.Outcome State Fault Refusal) : State :=
  match o with
  | .next s => s
  | .fault _ => State.reset
  | .refused _ => State.reset

/-- Station 4 after start-up with the default configuration, IDLE. -/
def up : State := { State.reset with phase := .running, station := 4 }

/-- A show state with a show number. -/
def inShow (x : ShowState) (s : State) : State :=
  { s with ctl := { s.ctl with state := x, number := some 3 }
           jets := { s.jets with causes := { s.jets.causes with ending := false } } }

/-- Every interlock input due to change its qualified state (R184). -/
def marked (s : State) : State := { s with locks := { s.locks with due := Vector.replicate 14 true } }

/-- ESTOP pressed and let go. -/
def pressed (s : State) : State := after (exec .estopReleased (marked (after (exec .estopAsserted (marked s)))))

/-- A frame fully received, the line about to go idle. -/
def heard (bytes : List Byte) (s : State) : State :=
  { s with line := { s.line with rx := { Receiver.cleared true with
      bytes := bytes, count := bytes.length, capture := some 0#32 } } }

/-- A frame from station 30. -/
def hears (kind : Nat) (payload : List Byte) (s : State) : State := heard (frameBytes kind 30 payload) s

/-- A SHOW payload: operation, show 3, group mask 1, start LT, fade. -/
def showPayload (op start fade : Nat) : List Byte :=
  bytes8 op ++ bytes8 3 ++ bytes8 1 ++ bytes32 start ++ bytes16 fade ++ [0#8, 0#8, 0#8]

/-- A JET cue record: due, kind byte, mask, ramp, height. -/
def jetRecord (due kind mask ramp height : Nat) : List Byte :=
  bytes32 due ++ bytes8 kind ++ bytes16 mask ++ bytes8 0 ++ bytes16 ramp ++ bytes16 height ++ List.replicate 4 0#8

/-- A CUE payload of one record for group 1. -/
def cuePayload (record : List Byte) : List Byte := bytes8 1 ++ bytes8 0 ++ record

/-- A pump with a state and speeds. -/
def withPump (j : Jet) (x : PumpState) (v : Nat) (s : State) : State :=
  setPump j { Pump.start x with sReq := v, sB := v, sOut := v } s

/-- A queue entry of a page. -/
def entryOf (page : Nat) (purpose : Purpose) (stream : Option StreamId) (x : EntryState) : QueueEntry :=
  { page := page, purpose := purpose, kind := .demand, stream := stream, state := x, discard := false, slot := 0 }

/-- A read in hand, alone in the queue, with slot 0. -/
def reading (e : QueueEntry) (s : State) : State :=
  { s with flash := { s.flash with
      queue := [e], slots := s.flash.slots.set 0 (.reserved e.page e.stream), portBusy := true, timer := some 5 } }

/-- A page of zeros but for its first bytes. -/
def page (bytes : List Byte) (h : bytes.length ≤ 2048) : Vector Byte pageBytes :=
  ⟨⟨bytes ++ List.replicate (2048 - bytes.length) 0#8⟩, by simp [pageBytes]; omega⟩

/-- A page with every byte 0. -/
def blankPage : Vector Byte pageBytes := Vector.replicate pageBytes 0#8

/-- A configuration block of the default values with every jet disabled, its CRC-16 at its end (12.3). -/
def goodBlock : List Byte :=
  let body : List Byte := bytes32 0 ++ bytes8 1 ++ bytes8 6 ++ bytes16 0 ++ bytes32 0 ++ bytes16 60 ++ bytes16 120 ++ bytes16 160 ++
    bytes16 50 ++ bytes16 5 ++ bytes16 50 ++ bytes16 300 ++ bytes16 4000 ++ bytes16 3000 ++ bytes8 5 ++ bytes8 0 ++
    bytes16 0 ++ bytes16 0 ++ bytes16 0x3FFD ++ bytes16 0 ++ bytes16 601 ++ bytes16 0 ++ bytes16 1001 ++ bytes16 0 ++
    bytes16 1001 ++ bytes16 0 ++ bytes16 1001 ++ bytes24 0xFFFFF ++ List.replicate 583 0#8 ++
    (List.range 12).flatMap (fun _ => [1#8, 255#8])
  body ++ crcBytes body

/-- Four CLEAN sectors. -/
def clean : Verdicts := ⟨.clean, .clean, .clean, .clean⟩

/-! ### Well-formedness: one ill-formed command for each check -/

theorem test_wf_refuses_station_0 : (Instr.peerRemoval 0).wellFormed = false := by decide
theorem test_wf_refuses_station_32 : (Instr.peerRemoval 32).wellFormed = false := by decide
theorem test_wf_takes_station_31 : (Instr.peerRemoval 31).wellFormed = true := by decide
theorem test_wf_refuses_bit_860 : (Instr.attemptFailed 860).wellFormed = false := by decide
theorem test_wf_takes_bit_859 : (Instr.attemptFailed 859).wellFormed = true := by decide
theorem test_wf_takes_reset : Instr.reset.wellFormed = true := by decide

/-! ### Decoding: the table gives no row any bits -/

theorem test_no_word_decodes : decodeTableWord 8 0 = none := by decide

/-! ### CRC and fields -/

/-- R5's worked computation. -/
theorem test_crc_of_00 : crc16 [0x00#8] = 0xE1F0#16 := by decide

/-- R5: the nine bytes 31h to 39h. -/
theorem test_crc_of_123456789 :
    crc16 [0x31#8, 0x32#8, 0x33#8, 0x34#8, 0x35#8, 0x36#8, 0x37#8, 0x38#8, 0x39#8] = 0x29B1#16 := by decide +kernel

/-- R2: a start bit of 0, the data bits least significant first, a stop bit of 1. -/
theorem test_line_bits : lineBits 0xA5#8 = [false, true, false, true, false, false, true, false, true, true] := by decide

/-- 1.7: station 9's SOURCE differs from station 4's first in its first data bit, which is sent as 1. -/
theorem test_mismatch_bit : (frameBits (frameBytes 1 9 []))[21]? = some true ∧
    (frameBits (frameBytes 1 4 []))[21]? = some false := by decide

/-! ### RESET and START_UP_SEQUENCE -/

/-- R189: reset from a running show. -/
theorem test_reset_clears_show : (after (exec .reset (inShow .running up))).ctl.state = .idle := by decide

/-- R190: the straps give the station number. -/
theorem test_start_up_station : (after (exec (.startUpSequence 9#5) State.reset)).station = 9 := by decide

/-! ### The Show Line -/

/-- A5h on the line, in order of arrival (R2): start bit, 1, 0, 1, 0, 0, 1, 0, 1, stop bit. -/
def bitsA5 : Vector Bool 10 := #v[false, true, false, true, false, false, true, false, true, true]

/-- R6: a frame with a wrong CRC counts in RX_CRC. -/
theorem test_bad_crc_counts :
    (after (exec .lineIdleDetection (heard [0xA5#8, 5#8, 30#8, 1#8, 4#8, 0#8, 0#8] up))).counters.rxCrc = 1 := by decide +kernel

/-- R24: a beacon of LT 1,000,250 captured at 1,000,000 gives +250. -/
theorem test_offset_250 : (peerOfBeacon 5 (bytes32 1000250) 1000000#32 0#32).offset.toInt = 250 := by decide

/-- R24: LT 5 captured at 4,294,967,290 gives +11. -/
theorem test_offset_wraps : (peerOfBeacon 5 (bytes32 5) 4294967290#32 0#32).offset.toInt = 11 := by decide

/-- R12: LINE_BUSY abandons a count. -/
theorem test_busy_abandons :
    (after (exec .lineBusy { up with line := { up.line with tx := .deferring 30 } })).line.tx = .quiet := by decide

/-- R2: the bits of A5h, sent least significant first, after the edge that begins the byte; and the same with no edge. -/
theorem test_byte_stored :
    (after (exec (.byteReceived bitsA5) (after (exec .lineBusy (heard [] up))))).line.rx.bytes = [0xA5#8] ∧
    (after (exec (.byteReceived bitsA5) (heard [] up))).line.rx.bytes = [] := by decide

/-- R2: the stop bit 0 breaks a byte; the start bit 1 drops it, whatever its stop bit reads. -/
theorem test_byte_not_stored : receivedByte (bitsA5.set 9 false) = .broken ∧ receivedByte (bitsA5.set 0 true) = .glitch ∧
    receivedByte ((bitsA5.set 0 true).set 9 false) = .glitch := by decide

/-- R13: with both slots WAITING the beacon goes first. -/
theorem test_beacon_first :
    (after (exec .deferralExpiry { up with line := { up.line with
      tx := .deferring 24, beacon := waitingSlot [], status := waitingSlot [] } })).line.beacon.use = .sending := by decide

/-- R14: a frame sent leaves its slot EMPTY. -/
theorem test_sent_empties :
    (after (exec .attemptSucceeded { up with line := { up.line with
      tx := .sending .status 0#32 [], status := { waitingSlot [] with use := .sending } } })).line.status.use = .empty := by
  decide

/-- 1.7: station 9 at its mismatch: TX_COLLISION 1, a = 1, r from 0 to 63 next. -/
theorem test_collision :
    let t := after (exec (.attemptFailed 21) { up with line := { up.line with
      tx := .sending .beacon 0#32 (frameBytes 1 9 []), beacon := { waitingSlot [] with use := .sending } } })
    t.counters.txCollision = 1 ∧ t.line.beacon.attempts = 1 ∧ t.line.drawRange = 64 := by decide +kernel

/-! ### Peers -/

/-- 2.5's table at 0 ms: stations 5, 9 and 12. -/
def threePeers : List PeerRecord :=
  let p (n f w b q h : Nat) (low : Bool) : PeerRecord :=
    { peerOfBeacon n [] 0#32 0#32 with
      feedGroup := f, windGroup := w, basinGroup := b, request := q, windHeld := h, levelLow := low }
  [p 5 2 1 3 240000 85 false, p 9 2 1 3 310500 140 true, p 12 1 2 3 200000 60 false]

/-- 2.5: heard demand 550,500, peer wind maximum 140, basin alarm true. -/
theorem test_views : heardDemand 2 threePeers = 550500 ∧ peerWind 1 threePeers = 140 ∧ peerLevelLow 3 threePeers = true := by
  decide

/-- 2.5: at 20,001 ms station 9's record is removed: 240,000, 85 and false. -/
theorem test_removal :
    let t := after (exec (.peerRemoval 9)
      { up with peers := threePeers.map fun p => if p.station = 9 then { p with age := 20001 } else p })
    heardDemand 2 t.peers = 240000 ∧ peerWind 1 t.peers = 85 ∧ peerLevelLow 3 t.peers = false := by decide

/-! ### Line time -/

/-- 3.9: the lists 0, +96,000 and -96,000, 0. -/
theorem test_medians : lowerMedian [0, 96000] = 0 ∧ lowerMedian [0, -96000] = -96000 := by decide

/-- A peer whose beacon gives an offset in the own sync group. -/
def peerAt (offset : Int) : PeerRecord := { peerOfBeacon 9 [] 0#32 0#32 with offset := BitVec.ofInt 32 offset, syncGroup := 0 }

/-- 3.9: station 4's beacon point at LT 103,440 with the sample -96,000: LT 7,441, N 7,680, offset 0, ACQUIRING. -/
theorem test_step_back :
    let t := after (exec .beaconPoint { up with
      peers := [peerAt (-96000)], ltu := { up.ltu with lt := 103440#32, beaconTimer := some 0 } })
    t.ltu.lt = 7441#32 ∧ t.ltu.nextControl = 7680#32 ∧ t.peers.map (·.offset) = [0#32] ∧ t.ltu.clock = .acquiring := by
  decide

/-- R47: with -3 pending a slew action leaves LT, -2 pending, and the offset one higher. -/
theorem test_slew_repeat :
    let t := after (exec .slewAction { up with
      peers := [peerAt (-3)], ltu := { up.ltu with lt := 500#32, correction := -3, spacing := 1000 } })
    t.ltu.lt = 500#32 ∧ t.ltu.correction = -2 ∧ t.peers.map (·.offset.toInt) = [-2] := by decide

/-- R36: LT advances by 1 and wraps. -/
theorem test_frame_wraps :
    (after (exec .frameBoundary { up with ltu := { up.ltu with lt := 4294967295#32 } })).ltu.lt = 0#32 := by decide

/-- R39: at LT 7,680 N becomes 8,160. -/
theorem test_next_control :
    (after (exec .controlInstant { up with ltu := { up.ltu with lt := 7680#32, nextControl := 7680#32 } })).ltu.nextControl
      = 8160#32 := by decide

/-! ### Cues and contexts -/

/-- 7.6: the TRACK value at 1,632,000 is 1,280; the LIVE value at 1,704,000 is 940. -/
theorem test_ramps :
    natLayerAt 1632000#32 { v0 := 800, v1 := 2000, t0 := 1440000#32, t1 := 1920000#32 } = 1280 ∧
    natLayerAt 1704000#32 { v0 := 1280, v1 := 600, t0 := 1632000#32, t1 := 1776000#32 } = 940 := by decide

/-- 7.4: a cue due at 2,400,000 with ramp 50 released at 2,401,440 has an effective ramp of 47. -/
theorem test_effective_ramp : effectiveRamp 50 (ltDiff 2401440#32 2400000#32) = 47 := by decide

/-! ### Jet drive: chapter 8's worked case -/

/-- The curve of jet 5. -/
def curve5 : Vector CurvePoint 8 :=
  #v[⟨200, 0⟩, ⟨300, 150⟩, ⟨400, 420⟩, ⟨500, 760⟩, ⟨600, 1150⟩, ⟨700, 1600⟩, ⟨800, 2100⟩, ⟨900, 2650⟩]

theorem test_wind_factor : windFactor 60 120 160 95 = 563 ∧ windFactor 60 120 160 130 = 250 := by decide
theorem test_ceiling : 2400 * windFactor 60 120 160 95 / 1000 = 1351 := by decide
theorem test_inversion : invertCurve curve5 1351 = 645 ∧ invertCurve curve5 600 = 453 := by decide
theorem test_power : powerRequest 45000 645 = 12075 ∧ powerFactor 1100000 1279700 = 859 := by decide
theorem test_cube_root : cubeRootBelow 1000 (859 * 10 ^ 6) = 950 := by decide +kernel
theorem test_budget : budgetedSpeed .running 200 645 950 = 612 ∧ outputSpeed 20 580 612 = 600 := by decide

/-- R146, R144: a PARKED pump that may prime is PRIMING with RUN on and the valve closed. -/
theorem test_priming :
    let t := after (exec (.primingStart 0) (inShow .armed
      { withPump 0 .parked 0 up with jets := { (withPump 0 .parked 0 up).jets with primeReady := some 0 } }))
    runPin t 0 = true ∧ valvePin t 0 = false := by decide

/-- R148: a run-down that has passed leaves the pump PARKED. -/
theorem test_run_down :
    (after (exec (.runDownEnd 2) (setPump 2 { Pump.start .parking with runDownTimer := 3000 } up))).jets.pumps[2].state
      = .parked := by decide

/-- R147: T_PRIME passed with the pressure input not READY: RUNNING, no test. -/
theorem test_prime_end :
    (after (exec (.primeEnd 2) (inShow .running (setPump 2 { Pump.start .priming with primeTimer := 4000 } up)))).jets.pumps[2].state
      = .running := by decide

/-- R183: at 2,000 ms manifold A's running pump is FAULTED; manifold B's is not. -/
theorem test_dry_run :
    let t := after (exec (.dryRunDetection .a)
      { withPump 0 .running 500 (withPump 6 .running 500 up) with
        sensors := { up.sensors with dryA := some 2000 } })
    t.jets.pumps[0].state = .faulted ∧ t.jets.pumps[6].state = .running := by decide

/-! ### Lighting and audio -/

/-- Chapter 9's example: -12,345 × 200 / 256 gives -9,645. -/
theorem test_gain : (scaleSample (BitVec.ofInt 16 (-12345)) 200).toInt = -9645 := by decide

/-- Chapter 9's example: frame 243 lies in sector 1, frames 244 and 371 in sector 2, frame 372 in sector 3. -/
theorem test_sectors : [243, 244, 371, 372].map sectorOfFrame = [1, 2, 2, 3] := by decide

/-- R162: a lamp frame ends and none is held back. -/
theorem test_lamp_idle :
    (after (exec .lampFrameDone { up with lamp := { up.lamp with sending := some [] } })).lamp.sending = none := by decide

/-! ### Sensors and interlocks -/

/-- Chapter 10's example: the filter's climb from 40 toward 150. -/
theorem test_filter_climb :
    filterWind 150 40 = 53 ∧ filterWind 150 53 = 65 ∧ filterWind 150 65 = 75 ∧ filterWind 150 75 = 84 ∧
    filterWind 150 143 = 143 := by decide

/-- R175: at the default scaling raw 4,095 of the wind input scales to trunc(601 × 4,095 / 4,096) = 600. -/
theorem test_scaling : scaleRaw 600 ⟨0, 601⟩ 4095#12 = 600 := by decide

/-- R176: the tenth bad sample puts a READY input in FAILED and latches its source. -/
theorem test_sensor_fails :
    let r : InputRecord := { InputRecord.start with health := .ready, bad := 9 }
    let t := after (exec (.sensorSample .level 0#12) { up with
      sensors := { up.sensors with inputs := { up.sensors.inputs with level := r }, due := ⟨true, true, true, true⟩ } })
    healthOf .level t = .failed ∧ isLatched .levelSensor t = true := by decide

/-- R176: warm-up ends with no bad run. -/
theorem test_warm_up :
    healthOf .wind (after (exec .warmUpEnd { up with sensors := { up.sensors with warmUp := some 0 } })) = .ready := by decide

/-- R179: the next bin takes the filtered wind. -/
theorem test_second :
    (after (exec .secondBoundary { up with
      sensors := { up.sensors with secondDue := true, filtered := 77 } })).sensors.bins[1] = 77 := by decide

/-- R184 at the two ticks of 10.5's qualification: one tick at the level of ASSERTED does not qualify ESTOP, a second does, and
a level that came back between them does not; the DRIVE_FAULT input of a DISABLED pump is not judged. -/
theorem test_two_ticks :
    let tick := fun (levels : BitVec 14) (l : Interlocks) => judgeInputs up.config up.jets levels l
    (tick 0#14 up.locks).due[0] = false ∧ (tick 0#14 (tick 0#14 up.locks)).due[0] = true ∧
    (tick 0#14 (tick 0x3FFF#14 (tick 0#14 up.locks))).due[0] = false ∧ (tick 0#14 (tick 0#14 up.locks)).due[2] = false := by
  decide +kernel

/-- R184: an input whose active level is high qualifies at a high pin. -/
theorem test_active_high :
    let c := { up.config with activeHigh := 2#14 }
    (judgeInputs c up.jets 3#14 (judgeInputs c up.jets 3#14 up.locks)).due[1] = true := by decide +kernel

/-- R185: ESTOP enters SAFE. -/
theorem test_estop : (after (exec .estopAsserted (marked (inShow .running up)))).ctl.state = .safe := by decide +kernel

/-- Chapter 11's example: the release of the button alone changes nothing. -/
theorem test_estop_released : (pressed up).ctl.state = .safe := by decide +kernel

/-- Chapter 11's example: a CLEAR of SAFETY with ESTOP released gives IDLE. -/
theorem test_clear_safe :
    (after (exec .lineIdleDetection (hears 4 [0#8, 1#8, 0#8] (pressed up)))).ctl.state = .idle := by decide +kernel

/-- Chapter 9's example: an AUX trip stops a RUNNING pump. -/
theorem test_aux : (after (exec .auxAsserted (marked (withPump 4 .running 450 up)))).jets.pumps[4].sOut = 0 := by
  decide +kernel

/-- R186: the default AUX is following. -/
theorem test_aux_released :
    (after (exec .auxReleased (marked { up with locks := { up.locks with aux := true, auxTrip := true } }))).locks.auxTrip
      = false := by decide +kernel

/-- R187: DRIVE_FAULT 3 sets bit 3 of the mask. -/
theorem test_drive_fault :
    (after (exec (.driveFaultAsserted 3) (marked (withPump 3 .parked 0 up)))).faults.pumpMask = 0b1000#12 := by
  decide +kernel

/-- R187: the default DRIVE_FAULT inputs are latching, so a release leaves the trip. -/
theorem test_drive_release :
    (after (exec (.driveFaultReleased 3)
      (marked (after (exec (.driveFaultAsserted 3) (marked (withPump 3 .parked 0 up))))))).locks.driveTrips[3]
      = true := by decide +kernel

/-! ### Flash and show -/

/-- R73: LOADING goes to TRANSFER. -/
theorem test_ready :
    (after (exec .flashReady (reading (entryOf 7 .audio (some .audio) .loading) up))).flash.queue.map (·.state)
      = [.transfer] := by decide

/-- R74, R75: a time-out fails four sectors. -/
theorem test_timeout :
    (after (exec .flashTimeout (reading (entryOf 7 .audio (some .audio) .loading) up))).counters.eccFailed = 4 := by decide

/-- R76: a retired AUDIO page is FILLED. -/
theorem test_retirement :
    ((after (exec (.retirement blankPage clean)
      (reading (entryOf 7 .audio (some .audio) .transfer) up))).flash.slots[0]).isFilled 7 = true := by decide +kernel

/-- R99: the start LT reached by less than 480 enters RUNNING. -/
theorem test_start_reached :
    (after (exec .startReached { inShow .armed up with
      ctl := { (inShow .armed up).ctl with startLt := some 0#32 }
      flash := { up.flash with description := some ⟨3, 1, 1, 3001⟩ } })).ctl.state = .running := by decide

/-! ### States that meet the hypotheses of the obligations, one for each clause -/

/-- A record like one in the table: station n, taken now. -/
def peer (n : Nat) : PeerRecord := peerOfBeacon n [] 0#32 0#32

/-- Start-up with page 0 in TRANSFER. -/
def configReading : State :=
  { reading (entryOf 0 .config none .transfer) State.reset with phase := .startUp, station := 4 }

theorem test_witness_StepRunsFrontCommand : State.reset.pending = [] := by decide

/-- In reset, and with the page read. -/
theorem test_witness_StartUpTakesConfiguration :
    State.reset.phase = .inReset ∧ State.reset.flash = State.reset.flash ∧
    configReading.phase = .startUp ∧ configReading.ctl.state = .idle ∧ configReading.flash.description = none ∧
    configReading.flash.queue = [{ page := 0, purpose := .config, kind := .demand, stream := none, state := .transfer,
                                   discard := false, slot := 0 }] ∧
    configReading.flash.audio = StreamRecord.off ∧ configReading.flash.cue = StreamRecord.off ∧
    configReading.flash.lookups = [] ∧ configReading.flash.indexDemands = [] ∧ configReading.flash.armDemand = none := by
  decide

set_option maxRecDepth 100000 in
/-- A page that fails and one that passes. -/
theorem test_witness_ConfigurationChecked :
    takeConfiguration blankPage.toList allFailed = none ∧
    (takeConfiguration (page goodBlock (by decide +kernel)).toList clean).isSome = true := by decide +kernel

/-- A bit sent as 0 and one sent as 1, on the line and in a lamp frame; the first, the last and the middle clocks. -/
theorem test_witness_PinsFollowState :
    let s := { up with line := { up.line with tx := .sending .beacon 0#32 [0xA5#8] }
                       lamp := { up.lamp with sending := some [0x5A#8] } }
    s.line.tx = .sending .beacon 0#32 [0xA5#8] ∧ (frameBits [0xA5#8])[0]? = some false ∧
    (frameBits [0xA5#8])[1]? = some true ∧ isSending up.line.tx = false ∧ up.lamp.sending = none ∧
    s.lamp.sending = some [0x5A#8] ∧ (frameBits [0x5A#8])[2]? = some true ∧ up.phase ≠ .inReset := by decide

/-- R194: FAULT for a HYDRAULIC source and not for one of WEATHER, and not for a masked one; STATUS_LED while LOCKED. -/
theorem test_fault_pin :
    let locked := { up with ltu := { up.ltu with clock := .locked } }
    faultPin (latch .dryA up) = true ∧ faultPin (latch .windTrip up) = false ∧
    faultPin { latch .dryA up with config := { up.config with faultMask := 0#20 } } = false ∧
    statusLed locked = true ∧ statusLed (latch .windTrip locked) = false ∧ statusLed up = false := by decide

/-- The line busy and idle, a byte in hand or not, and no slot WAITING or one. -/
theorem test_witness_LineIsReceived :
    (up.phase ≠ .inReset ∧ isDeferring (.deferring 24) = true ∧ isDeferring up.line.tx = false ∧
      (heard [] up).line.rx.assembling = true ∧ (heard [] up).line.rx.inByte = false ∧ (heard [] up).line.rx.count = 0 ∧
      up.line.rx.assembling = false ∧ (heard [0xA5#8] up).line.rx.count ≠ 0) ∧
    (let s := after (exec .lineBusy (heard [0xA5#8] up));
      s.phase ≠ .inReset ∧ s.line.rx.assembling = true ∧ s.line.rx.inByte = true ∧ s.line.rx.count ≠ 0 ∧
      bitsA5[0] = false ∧ bitsA5[9] = true ∧ (∀ i : Fin 8, (0xA5#8).getLsbD i.val = bitsA5[i.val + 1]) ∧
      (bitsA5.set 9 false)[9] = false ∧ (bitsA5.set 0 true)[0] = true) ∧
    (IdleComes up ∧ up.line.rx.count = 0 ∧ chosenSlot up.line = none) ∧
    let s := { up with line := { up.line with beacon := waitingSlot [] } }
    IdleComes s ∧ s.line.rx.count = 0 ∧ chosenSlot s.line ≠ none ∧ s.line.tx = .quiet ∧ 0 < s.line.drawRange := by
  unfold IdleComes; decide

/-- A frame of a wrong start mark, one byte, too few bytes, a wrong CRC; kinds 0 and 7; sources 0 and 32; a wrong length; and
one of the own station's number. -/
theorem test_witness_BadFramesAreCounted :
    let rx := fun (k n : Nat) (payload : List Byte) => (heard (frameBytes k n payload) up).line.rx
    let own := heard (frameBytes 5 4 [4#8]) up
    (∀ b ∈ [[0x5A#8, 5#8, 30#8, 1#8, 4#8, 0#8, 0#8], [0xA5#8], [0xA5#8, 5#8, 30#8, 1#8, 4#8, 0#8],
        [0xA5#8, 5#8, 30#8, 1#8, 4#8, 0#8, 0#8]],
      IdleComes (heard b up) ∧ NothingWaits (heard b up) ∧ (heard b up).line.rx.count ≠ 0 ∧
      integrityOk (heard b up).line.rx = false) ∧
    (∀ k ∈ [0, 7], integrityOk (rx k 30 [4#8]) = true ∧
      (byteAt (rx k 30 [4#8]).bytes 1 = 0 ∨ 6 < byteAt (rx k 30 [4#8]).bytes 1)) ∧
    (∀ n ∈ [0, 32], integrityOk (rx 5 n [4#8]) = true ∧ judgeFrame (rx 5 n [4#8]) = .format) ∧
    integrityOk (rx 5 30 [4#8, 4#8]) = true ∧ lengthOk 5 2 = false ∧ judgeFrame (rx 5 30 [4#8]) = .valid 5 30 [4#8] ∧
    (let long := (heard (List.replicate 103 0xA5#8) up).line.rx; 102 < long.count) ∧
    IdleComes own ∧ NothingWaits own ∧ own.line.rx.count ≠ 0 ∧ judgeFrame own.line.rx = .valid 5 own.station [4#8] := by
  unfold IdleComes NothingWaits; decide +kernel

/-- The transmitter DEFERRING with the BEACON slot, the STATUS slot alone, and no slot WAITING. -/
theorem test_witness_ExpiryPicksBeaconFirst :
    ∀ b ∈ [SlotUse.waiting, .empty], ∀ x ∈ [SlotUse.waiting, .empty],
      let s := { up with line := { up.line with
        tx := .deferring 24, beacon := { waitingSlot [] with use := b }, status := { waitingSlot [] with use := x } } }
      s.line.tx = .deferring 24 ∧ s.line.beacon.use = b ∧ s.line.status.use = x := by decide

/-- Counts 0, 6 and 7 of failures, give-ups 2, 3 and 4, at a bit sent as 1; a beacon pending behind a beacon or none. -/
theorem test_witness_AttemptsEnd :
    up.station ≠ 0 ∧ ∀ a ∈ [0, 6, 7], ∀ g ∈ [2, 3, 4], ∀ x ∈ [SlotId.beacon, .status], ∀ b ∈ [true, false],
      let s := { up with line := { up.line with
        tx := .sending x 0#32 [0xFF#8], giveUps := g, buildPending := b && x == SlotId.beacon
        beacon := { waitingSlot [] with attempts := a }, status := { waitingSlot [] with attempts := a } } }
      s.line.tx = .sending x 0#32 [0xFF#8] ∧ (frameBits [0xFF#8])[1]? = some true ∧
      (x = .beacon ∨ s.line.buildPending = false) ∧ (slotAt x s.line).attempts = a ∧ s.line.giveUps = g := by
  decide +kernel

/-- A BEACON heard with an empty table, and with 30 records of which one is the sender's. -/
theorem test_witness_BeaconWritesRecord :
    let s := hears 1 (List.replicate 23 0#8) up
    let full := { s with station := 31, peers := (List.range 30).map fun n => peer (n + 1) }
    FrameEnds 1 30 (List.replicate 23 0#8) s ∧ NothingWaits s ∧ s.line.rx.capture = some 0#32 ∧ PeersHeld s ∧
    s.peers.length < 30 ∧ FrameEnds 1 30 (List.replicate 23 0#8) full ∧ PeersHeld full ∧
    ∃ q ∈ full.peers, q.station = 30 := by
  unfold FrameEnds IdleComes NothingWaits PeersHeld; decide +kernel

/-- A LISTEN-ONLY station hears a new station at a full table: stations 1 to 30, and a BEACON of 31. -/
theorem test_witness_BeaconWritesRecord_full :
    let s := { heard (frameBytes 1 31 (List.replicate 23 0#8)) up with
      station := 0, peers := (List.range 30).map fun n => peer (n + 1) }
    FrameEnds 1 31 (List.replicate 23 0#8) s ∧ NothingWaits s ∧ s.line.rx.capture = some 0#32 ∧ PeersHeld s ∧
    ¬(s.peers.length < 30) ∧ ∀ q ∈ s.peers, q.station ≠ 31 := by
  unfold FrameEnds IdleComes NothingWaits PeersHeld; decide +kernel

/-- A SHOW frame taken in a state, with an operation, for a group. -/
def showHeard (x : ShowState) (op start fade : Nat) : State := hears 3 (showPayload op start fade) (inShow x up)

/-- Every operation in each state that refuses it; a frame of a group of others. -/
theorem test_witness_RefusalsAreRecorded :
    (∀ c ∈ [(ShowState.arming, 1), (.running, 1), (.ending, 1), (.safe, 1), (.idle, 2), (.running, 2), (.ending, 2),
        (.safe, 2), (.idle, 3), (.safe, 3), (.running, 0), (.running, 4)],
      let s := showHeard c.1 c.2 0 0
      NothingWaits s ∧ FrameEnds 3 30 (showPayload c.2 0 0) s ∧ s.ctl.state = c.1 ∧
      (showPayload c.2 0 0).getD 2 0#8 &&& s.config.cueGroups ≠ 0#8 ∧ byteAt (showPayload c.2 0 0) 0 = c.2) ∧
    (showPayload 1 0 0).getD 2 0#8 &&& 2#8 = 0#8 ∧
    ∀ x ∈ [ShowState.idle, .arming, .ending, .safe],
      let s := hears 2 (cuePayload (jetRecord 0 1 1 0 800)) (inShow x up)
      NothingWaits s ∧ FrameEnds 2 30 (cuePayload (jetRecord 0 1 1 0 800)) s ∧ s.ctl.state = x := by
  unfold FrameEnds IdleComes NothingWaits; decide +kernel

/-- A queue entry of a LIVE cue. -/
def liveEntry (due : LineTime) : CueEntry :=
  { due := due, source := .live, kind := .jet 800, mask := 1#12, ramp := 0, arrival := 0 }

/-- A frame of one record, and the length of five; a record of unknown kinds 0 and 6, and one stale by 48,001 counts and one
late by 48,000. -/
theorem test_witness_LiveCuesTaken :
    (let p := cuePayload (jetRecord 0 1 1 0 800)
     let s := hears 2 p (inShow .running up)
     NothingWaits s ∧ FrameEnds 2 30 p s ∧ ReceiverHeld s ∧ p.length = 2 + 16 * 1 ∧ p.getD 0 0#8 &&& s.config.cueGroups ≠ 0#8 ∧
     s.ctl.state = .running) ∧
    lengthOk 2 (2 + 16 * 5) = true ∧ lengthOk 2 (2 + 16 * 6) = false ∧
    (byteAt (jetRecord 0 0 1 0 800) 4 % 16 = 0 ∧ 5 < byteAt (jetRecord 0 6 1 0 800) 4 % 16 ∧
      ∀ k ∈ [1, 2, 3, 4, 5], byteAt (jetRecord 0 (0x80 + k) 1 0 800) 4 % 16 = k) ∧
    48000 < ltDiff 100000#32 51999#32 ∧ ltDiff 100000#32 52000#32 ≤ 48000 ∧
    48 ≤ (List.replicate 48 (liveEntry 0#32)).length := by
  unfold FrameEnds IdleComes NothingWaits ReceiverHeld; decide +kernel

/-- In ARMED, for the show in hand and for another. -/
theorem test_witness_ArmEntersArming_armed :
    ∀ n ∈ [3, 5],
      let armed := inShow .armed up
      let s := hears 3 (showPayload 1 0 0) { armed with ctl := { armed.ctl with number := some n } }
      NothingWaits s ∧ FrameEnds 3 30 (showPayload 1 0 0) s ∧ s.ctl.state = .armed ∧ FlashHeld s ∧ OwnedHeld s ∧ s.flash.queue = [] ∧
      (∀ i : Fin 16, (s.flash.slots[i]).isFilled 1 = false) ∧
      (s.ctl.number = some (byteAt (showPayload 1 0 0) 1) ↔ n = 3) := by
  unfold FrameEnds IdleComes NothingWaits FlashHeld OwnedHeld; decide +kernel

/-- In IDLE. -/
theorem test_witness_ArmEntersArming :
    let s := hears 3 (showPayload 1 0 0) up
    NothingWaits s ∧ FrameEnds 3 30 (showPayload 1 0 0) s ∧ (showPayload 1 0 0).getD 2 0#8 &&& s.config.cueGroups ≠ 0#8 ∧
    byteAt (showPayload 1 0 0) 0 = 1 ∧ byteAt (showPayload 1 0 0) 1 ≤ 15 ∧ s.ctl.state = .idle ∧ NoShow s ∧
    s.flash.queue = [] ∧ s.flash.portBusy = false ∧ ∀ i : Fin 16, s.flash.slots[i] = .free := by
  unfold FrameEnds IdleComes NothingWaits NoShow; decide +kernel

/-- In RUNNING, ARMING and ARMED; in ENDING with the fade end later than the frame's, as late, reached, and END set. -/
theorem test_witness_StopEntersEnding :
    (∀ x ∈ [ShowState.arming, .armed],
      let s := showHeard x 3 0 6000
      NothingWaits s ∧ FrameEnds 3 30 (showPayload 3 0 6000) s ∧ s.ctl.state = x ∧ s.flash.slotFreed = false ∧
      s.flash.heldNow = [] ∧ OwnedHeld s) ∧
    (∀ c ∈ [((480 * 6000 + 1 : Nat), false), (480 * 6000, false), (0, false), (480 * 6000 + 1, true)],
      let ending := showHeard .ending 3 0 6000
      let s := { ending with ctl := { ending.ctl with fadeEnd := some (BitVec.ofNat 32 c.1) }
                             jets := { ending.jets with causes := { ending.jets.causes with ending := c.2 } } }
      NothingWaits s ∧ FrameEnds 3 30 (showPayload 3 0 6000) s ∧ s.ctl.state = .ending ∧ s.flash.slotFreed = false ∧
      s.flash.heldNow = [] ∧ (0 ≤ ltDiff s.ltu.lt (BitVec.ofNat 32 c.1) ↔ c.1 = 0) ∧
      (0 < ltDiff (BitVec.ofNat 32 c.1) (s.ltu.lt + BitVec.ofNat 32 (480 * 6000)) ↔ c.1 = 480 * 6000 + 1)) ∧
    let s := showHeard .running 3 0 6000
    NothingWaits s ∧ FrameEnds 3 30 (showPayload 3 0 6000) s ∧ byteAt (showPayload 3 0 6000) 0 = 3 ∧
    s.ctl.state = .running ∧ s.flash.lookups = [] ∧ s.flash.indexDemands = [] ∧ s.flash.armDemand = none := by
  unfold FrameEnds IdleComes NothingWaits OwnedHeld; decide +kernel

/-- A CLEAR of all stations, and one of this station with the counters flag. -/
theorem test_witness_ClearActsOnSources :
    ∀ p ∈ [[0#8, 31#8, 0#8], [4#8, 0#8, 1#8]],
      let s := hears 4 p up
      NothingWaits s ∧ FrameEnds 4 30 p s ∧ (byteAt p 0 = 0 ∨ byteAt p 0 = s.station) ∧
      bitAt p 2 0 = (byteAt p 0 == 4) := by
  unfold FrameEnds IdleComes NothingWaits; decide +kernel

/-- A CLEAR naming SAFETY and HYDRAULIC, one or neither; a FAULTED pump with its trip, without it, and a pump not FAULTED. -/
theorem test_witness_ClearEndsTrips :
    ∀ n ∈ [0, 1, 2, 3],
      let p := [0#8, BitVec.ofNat 8 n, 0#8]
      let s := hears 4 p { withPump 3 .faulted 0 (withPump 4 .faulted 0 up) with
        locks := { up.locks with auxTrip := true, driveTrips := up.locks.driveTrips.set 3 true, drive := up.locks.drive.set 3 true } }
      NothingWaits s ∧ FrameEnds 4 30 p s ∧ byteAt p 0 = 0 ∧ s.jets.pumps[3].state = .faulted ∧
      s.locks.driveTrips[3] = true ∧ s.locks.driveTrips[4] = false ∧ s.jets.pumps[5].state ≠ .faulted := by
  unfold FrameEnds IdleComes NothingWaits; decide +kernel

/-- SAFE with the trip set: SAFETY named with ESTOP released and asserted, and not named. -/
theorem test_witness_ClearLeavesSafe :
    ∀ c ∈ [((1 : Nat), false), (1, true), (30, false)],
      let p := [0#8, BitVec.ofNat 8 c.1, 0#8]
      let s := hears 4 p { inShow .safe up with locks := { up.locks with estopTrip := true, estop := c.2 } }
      NothingWaits s ∧ FrameEnds 4 30 p s ∧ s.ctl.state = .safe ∧ s.locks.estopTrip = true ∧
      s.locks.estop = c.2 ∧ (p.getD 1 0#8).getLsbD 0 = (c.1 == 1) := by
  unfold FrameEnds IdleComes NothingWaits; decide +kernel

theorem test_witness_QueryBuildsStatus :
    ∀ p ∈ [[4#8], [5#8]],
      let s := hears 5 p up
      NothingWaits s ∧ FrameEnds 5 30 p s ∧ s.station ≠ 0 ∧ s.line.status.use = .empty ∧ s.line.tx = .quiet ∧
      0 < s.line.drawRange ∧ (byteAt p 0 = s.station ↔ p = [4#8]) := by
  unfold FrameEnds IdleComes NothingWaits; decide +kernel

/-- The start LT invalid and valid, in RUNNING and not; a refusal recorded and none. -/
theorem test_witness_PayloadLayouts :
    up.ctl.startLt = none ∧ up.ctl.state ≠ .running ∧ up.ctl.state ≠ .ending ∧ up.ctl.refusal = none ∧
    let s := { inShow .running up with ctl := { (inShow .running up).ctl with
      startLt := some 7#32, refusal := some (.cue, .safe) } }
    s.ctl.startLt = some 7#32 ∧ s.ctl.state = .running ∧ s.ctl.refusal = some (.cue, .safe) := by decide

/-- A beacon point come, with the peers whose offsets are given. -/
def pointAt (offsets : List Int) (s : State) : State :=
  { s with peers := offsets.map peerAt, ltu := { s.ltu with beaconTimer := some 0 } }

/-- Empty counts 2 and 3; a record of age 1,000, which gives a sample, and one of 1,001, which gives none; medians 2, 3, 24,
25, 240, 241 and 2,400 in IDLE, each from two equal samples; 2,401 and 48,000 in RUNNING. -/
theorem test_witness_BeaconPointEvaluates :
    (∀ n ∈ [2, 3],
      let s := pointAt [] { up with ltu := { up.ltu with emptyCount := n } }
      s.phase = .running ∧ s.ltu.beaconTimer = some 0 ∧ clockSamples s.config.syncGroup s.peers = [] ∧
      s.ltu.emptyCount = n) ∧
    (∀ a ∈ [1000, 1001],
      let s := { pointAt [] up with
        peers := [{ peer 9 with age := a, syncGroup := up.config.syncGroup, sampleNew := true }] }
      PeersHeld s ∧ (clockSamples s.config.syncGroup s.peers ≠ [] ↔ a = 1000)) ∧
    (∀ m ∈ [2, -3, 24, -25, 240, 241, -2400],
      let s := pointAt [m, m] up
      clockSamples s.config.syncGroup s.peers ≠ [] ∧
      lowerMedian (0 :: clockSamples s.config.syncGroup s.peers) = m ∧ m.natAbs ≤ 2400) ∧
    ∀ m ∈ [2401, -48000],
      let s := pointAt [m, m] (inShow .running up)
      clockSamples s.config.syncGroup s.peers ≠ [] ∧
      lowerMedian (0 :: clockSamples s.config.syncGroup s.peers) = m ∧ m.natAbs ≤ 48000 ∧ s.ctl.state = .running := by
  unfold PeersHeld; decide +kernel

theorem test_witness_EvaluationSteps :
    ∀ m ∈ [2401, -2401],
      let s := pointAt [m, m] up
      s.phase = .running ∧ s.ltu.beaconTimer = some 0 ∧ clockSamples s.config.syncGroup s.peers ≠ [] ∧
      s.ltu.made = none ∧ s.ctl.state ≠ .running ∧ s.ctl.state ≠ .ending ∧
      lowerMedian (0 :: clockSamples s.config.syncGroup s.peers) = m ∧ 2400 < m.natAbs := by decide +kernel

/-- An index page of as many good entries, each of one cue. -/
def indexOf (segments : Nat) : CachePage :=
  let entry : IndexEntry := { firstAudio := 80000, firstCuePage := 20000, firstCueRecord := 0, keyPresent := true,
                              last := false, cueCount := 1 }
  { number := 0, entries := List.replicate (segments - 1) entry ++ [{ entry with last := true }] }

/-- A show that plays, of 100 segments, its start LT 0, its index page held. -/
def playingFor (x : ShowState) : State :=
  { inShow x up with ctl := { (inShow x up).ctl with startLt := some 0#32 }
                     flash := { up.flash with description := some ⟨3, 100, 1, 3001⟩, cache := [indexOf 100] } }

/-- Steps of 48,001 back from inside the show and ahead past its end, in RUNNING and in ENDING, with its index page held. -/
theorem test_witness_StepReSeeks :
    ∀ x ∈ [ShowState.running, .ending], ∀ m ∈ [48001, -48001],
      let s := pointAt [m, m] { playingFor x with ltu := { up.ltu with lt := 4751999#32 } }
      let q := ltDiff (s.ltu.lt + BitVec.ofInt 32 (1 + m)) 0#32
      s.phase = .running ∧ s.ltu.beaconTimer = some 0 ∧ s.ltu.made = none ∧ s.ctl.startLt = some 0#32 ∧
      s.flash.description = some ⟨3, 100, 1, 3001⟩ ∧ IndexSound ⟨3, 100, 1, 3001⟩ s ∧ DelayHeld s ∧ -(2 ^ 31) ≤ q - s.config.audioDelay ∧ s.flash.cache ≠ [] ∧
      s.flash.slotFreed = false ∧ s.flash.heldNow = [] ∧ s.flash.armDemand = none ∧ s.flash.indexDemands = [] ∧ s.ctl.state = x ∧ s.flash.cue = StreamRecord.off ∧
      (∀ i : Fin 16, s.flash.slots[i] = .free) ∧
      48000 < (lowerMedian (0 :: clockSamples s.config.syncGroup s.peers)).natAbs ∧
      (q < 100 * 48000 ↔ m = -48001) := by unfold IndexSound DelayHeld; decide +kernel

theorem test_witness_BeaconSlotAtBeaconPoint :
    ∀ x ∈ [SlotUse.empty, .waiting, .sending], ∀ n ∈ [0, 4],
      let s := pointAt [] { up with station := n, line := { up.line with beacon := { waitingSlot [] with use := x } } }
      s.phase = .running ∧ s.ltu.beaconTimer = some 0 ∧ s.line.beacon.use = x ∧ s.station = n := by decide

theorem test_witness_EvaluationSteps_median : ([0, 3] : List Int) ≠ [] := by decide

/-- A SLEW_ACTION with each sign of the correction, fast and slow; and LT moving at a FRAME_BOUNDARY. -/
theorem test_witness_LineTimeMovers :
    (after (exec .frameBoundary up)).ltu.lt ≠ up.ltu.lt ∧
    ∀ c ∈ [((1 : Int), true, 100), (-1, false, 1000)],
      let s := { up with ltu := { up.ltu with correction := c.1, fast := c.2.1, spacing := c.2.2 } }
      s.ltu.correction ≠ 0 ∧ s.ltu.made = none ∧ (if s.ltu.fast then 100 else 1000) ≤ s.ltu.spacing := by decide +kernel

/-- Frame periods 46 and 47, before the end of start-up and after it. -/
theorem test_witness_FrameBoundaryTicks :
    up.phase ≠ .inReset ∧ up.ctl.state ≠ .running ∧ up.ctl.state ≠ .ending ∧ configReading.phase ≠ .inReset ∧
    configReading.phase ≠ .running ∧ { up with framePhase := 47 }.phase = .running ∧ ¬(47 ≤ up.framePhase) := by decide

/-- A segment at flash page 80,000. -/
def segment1 : SegmentRecord :=
  { segment := 0, entry := { firstAudio := 80000, firstCuePage := 0, firstCueRecord := 0, keyPresent := false,
                             last := true, cueCount := 0 } }

/-- RUNNING at the frame before the one given of page 0, the page IN_USE in slot 0, no early demand made. -/
def playingAt (frame : Nat) (early : Bool) : State :=
  { inShow .running up with
    ctl := { (inShow .running up).ctl with startLt := some 0#32 }
    ltu := { up.ltu with lt := BitVec.ofNat 32 frame - 1#32 }
    audio := { up.audio with opening := some ⟨false, false, true, false⟩ }
    flash := { up.flash with
      description := some ⟨3, 1, 1, 3001⟩
      slots := up.flash.slots.set 0 (.inUse 80000 (some .audio) ⟨[], clean⟩ false)
      audio := { StreamRecord.off with
        on := true, early := early, current := some segment1, page := some ⟨0, 0, 80000⟩ } } }

/-- Frame 243, in sector 1. -/
def playingState : State := playingAt 243 false

/-- Frame 0 and frame 399 before the early demand, frame 499 after it. -/
theorem test_witness_FramePlaysSamples :
    ∀ c ∈ [(0, false), (399, false), (499, true)],
      let s := playingAt c.1 c.2
      let a := (s.ltu.lt + 1#32 - 0#32 - BitVec.ofNat 32 s.config.audioDelay).toInt
      s.phase ≠ .inReset ∧ s.ctl.state = .running ∧ s.ltu.made = none ∧ s.ctl.startLt = some 0#32 ∧
      s.flash.description = some ⟨3, 1, 1, 3001⟩ ∧ s.flash.slotFreed = false ∧ s.flash.heldNow = [] ∧ a = (c.1 : Nat) ∧
      s.flash.audio.page = some ⟨0, 0, 80000⟩ ∧ s.flash.audio.current = some segment1 ∧
      (s.flash.audio.early = true ∨ a.toNat % 500 < 400) ∧
      findSlot (Slot.isInUseFor .audio 80000) s.flash = some 0 ∧ (s.flash.slots[0]).content = some ⟨[], clean⟩ ∧
      s.audio.opening = some ⟨false, false, true, false⟩ ∧
      silenced s.audio.opening ((48 + 4 * (a.toNat % 500)) / 512) = false := by decide +kernel

/-- No page; a later page; the page's slot empty; frame 244 of the silenced sector 2; the frame before the start; the show's end. -/
theorem test_witness_FramesNotPlayed :
    let s := playingState
    let away := { s with flash := { s.flash with audio := { s.flash.audio with page := none } } }
    let empty := { s with flash := { s.flash with slots := up.flash.slots } }
    let before := { s with ltu := { s.ltu with lt := 4294967294#32 } }
    let last := { s with ltu := { s.ltu with lt := 47999#32 } }
    let later := { s with flash := { s.flash with audio := { s.flash.audio with page := some ⟨0, 1, 80001⟩ } } }
    away.flash.audio.page = none ∧ (later.flash.audio.page = some ⟨0, 1, 80001⟩ ∧
      later.flash.audio.current = some segment1 ∧ segment1.segment = 0 ∧ 243 / 500 < 0 * 96 + 1) ∧ findSlot (Slot.isInUseFor .audio 80000) empty.flash = none ∧
    silenced (playingAt 244 false).audio.opening ((48 + 4 * 244) / 512) = true ∧
    (before.ltu.lt + 1#32 - 0#32 - BitVec.ofNat 32 s.config.audioDelay).toInt < 0 ∧
    (48000 : Nat) ≤ (last.ltu.lt + 1#32 - 0#32 - BitVec.ofNat 32 s.config.audioDelay).toInt ∧ last.flash.lookups = [] ∧
    last.flash.indexDemands = [] ∧ last.flash.armDemand = none ∧ last.flash.cue.pendingDemand = none ∧
    last.flash.audio.pendingDemand = none := by decide +kernel

/-- RUNNING in a show of two segments, the reader on a page of segment 0, one frame before a
show position, with slot 3 and the queue as given. -/
def turningAt (position : Nat) (index : Nat) (slot : Slot) (queue : List QueueEntry) : State :=
  { inShow .running up with
    ctl := { (inShow .running up).ctl with startLt := some 0#32 }
    ltu := { up.ltu with lt := BitVec.ofNat 32 position - 1#32 }
    flash := { up.flash with
      description := some ⟨3, 2, 1, 3001⟩
      queue := queue, portBusy := queue ≠ []
      slots := (queue.foldl (fun v e => v.set e.slot (.reserved e.page e.stream)) up.flash.slots).set 3 slot
      audio := { StreamRecord.off with
        on := true, current := some segment1, next := some { segment1 with segment := 1 }
        page := some ⟨0, index, 80000 + index⟩ } } }

/-- From page 10: page 11 FILLED with and without the mark, its demand and its prefetch in the queue, and neither; the jump to
page 13; the crossing to segment 1; and frame 400 with the following page FILLED, occupied, and neither. -/
theorem test_witness_AudioReaderMoves :
    let read := fun (page : Nat) (kind : RequestKind) =>
      [{ entryOf page .audio (some .audio) .loading with kind := kind }]
    ∀ s ∈ [turningAt 5500 10 (.filled 80011 (some .audio) ⟨[], clean⟩ true) [],
        turningAt 5500 10 (.filled 80011 (some .audio) ⟨[], clean⟩ false) [], turningAt 5500 10 .free (read 80011 .demand),
        turningAt 5500 10 .free (read 80011 .prefetch), turningAt 5899 10 .free [],
        turningAt 6500 10 (.filled 80012 (some .audio) ⟨[], clean⟩ true) [], turningAt 48000 95 .free [],
        turningAt 5400 10 (.filled 80011 (some .audio) ⟨[], clean⟩ true) [], turningAt 5400 10 .free (read 80011 .prefetch),
        turningAt 5499 10 .free []],
      let a := (s.ltu.lt + 1#32 - 0#32 - BitVec.ofNat 32 s.config.audioDelay).toInt
      s.phase ≠ .inReset ∧ s.ctl.state = .running ∧ s.ltu.made = none ∧ s.ctl.startLt = some 0#32 ∧
      s.flash.description = some ⟨3, 2, 1, 3001⟩ ∧ FlashHeld s ∧ StreamsHeld s ∧ s.flash.audio.on = true ∧
      s.flash.audio.pendingDemand = none ∧ s.flash.cue.pendingDemand = none ∧ s.flash.indexDemands = [] ∧
      s.flash.audio.current = some segment1 ∧ s.flash.audio.next = some { segment1 with segment := 1 } ∧
      s.flash.audio.early = false ∧ 0 ≤ a ∧ a < 2 * 48000 ∧ a.toNat % 48000 / 500 + 7 ≤ 96 ∧
      ∃ i ∈ [10, 95], s.flash.audio.page = some ⟨0, i, 80000 + i⟩ ∧
        ((a.toNat / 48000 = 0 ∧ i < a.toNat % 48000 / 500 ∧ a.toNat % 500 < 400) ∨
          (a.toNat / 48000 = 1 ∧ i = 95 ∧ a.toNat % 48000 / 500 = 0) ∨
          (a.toNat / 48000 = 0 ∧ i = a.toNat % 48000 / 500 ∧ 400 ≤ a.toNat % 500)) := by
  unfold FlashHeld StreamsHeld; decide +kernel

/-- R80 and R92: an early demand that is taken leaves the demand for the reader's page pending. -/
theorem test_early_demand :
    let s := turningAt 5400 10 .free []
    let t := after (exec .frameBoundary { s with flash := { s.flash with
      audio := { s.flash.audio with pendingDemand := some 80010 } } })
    t.flash.audio.pendingDemand = some 80010 ∧ t.flash.queue.any (fun e => e.page == 80011) = true := by decide +kernel

/-- LT one before N, and at N; LT at the top of its range; before the end of start-up. -/
theorem test_witness_ControlInstantMovesN :
    ltDiff 479#32 480#32 < 0 ∧ 0 ≤ ltDiff 480#32 480#32 ∧ 0 ≤ ltDiff 4294967040#32 4294967040#32 ∧
    (4294967039#32 : LineTime).toNat < 4294967040 ∧ 4294967040 ≤ (4294967040#32 : LineTime).toNat ∧
    configReading.phase ≠ .inReset ∧ up.phase ≠ .inReset := by decide

/-- A control instant come in a show state, with a queue. -/
def instantAt (x : ShowState) (entries : List CueEntry) : State :=
  { inShow x up with ltu := { up.ltu with lt := 100320#32, nextControl := 100320#32 }
                     cues := { entries := entries, nextArrival := 1 } }

/-- A layer at its end, before its start, and between the two, where the truncation shows; one of a light; a context with a
LIVE layer and one without; two entries, one due and one not; a LIVE cue late by 48,000 and by 48,001; a TRACK one; each other kind. -/
theorem test_witness_DueCuesAct :
    (let l : Layer Nat := { v0 := 100, v1 := 93, t0 := 0xFFFFFF00#32, t1 := 224#32 }
     (0 ≤ ltDiff 224#32 l.t1 ∧ natLayerAt 224#32 l = 93) ∧
     (ltDiff 0xFFFFFEFF#32 l.t1 < 0 ∧ ltDiff 0xFFFFFEFF#32 l.t0 < 0 ∧ natLayerAt 0xFFFFFEFF#32 l = 100) ∧
     (ltDiff 223#32 l.t1 < 0 ∧ 0 ≤ ltDiff 223#32 l.t0 ∧ 0 ≤ ltDiff l.t1 l.t0 ∧ natLayerAt 223#32 l = 94) ∧
     natContextAt 0#32 { track := l, live := some (Layer.rest 7 0#32) } = 7 ∧
     natContextAt 224#32 { track := l, live := none } = 93) ∧
    (let s := instantAt .armed [liveEntry 100320#32, liveEntry 100321#32]
     s.phase = .running ∧ 0 ≤ ltDiff s.ltu.lt s.ltu.nextControl ∧ s.ctl.state = .armed) ∧
    ∀ e ∈ [liveEntry 52320#32, liveEntry 52319#32, { liveEntry 52319#32 with source := .track },
        { liveEntry 100320#32 with kind := .release }, { liveEntry 100320#32 with kind := .light ⟨1, 2, 3⟩ },
        { liveEntry 100320#32 with kind := .gain 9 }, { liveEntry 100320#32 with kind := .ending, ramp := 1 }],
      let s := instantAt .running [e]
      s.phase = .running ∧ 0 ≤ ltDiff s.ltu.lt s.ltu.nextControl ∧ s.ctl.state = .running ∧ s.cues.entries = [e] ∧
      0 ≤ ltDiff s.ltu.lt e.due ∧ s.flash.slotFreed = false ∧ s.flash.heldNow = [] ∧ s.flash.lookups = [] ∧
      s.flash.armDemand = none ∧ s.jets.causes.ending = false ∧ OwnedHeld s ∧
      (48000 < ltDiff s.ltu.lt e.due ↔ e.due = 52319#32) := by
  unfold OwnedHeld; decide +kernel

theorem test_witness_DriveFollowsHeights :
    ∀ x ∈ [ShowState.running, .armed],
      let s := instantAt x []
      s.phase = .running ∧ 0 ≤ ltDiff s.ltu.lt s.ltu.nextControl ∧ s.ctl.state = x ∧ s.cues.entries = [] ∧
      s.flash.slotFreed = false ∧ s.flash.heldNow = [] := by decide

/-- R139: a PRIMING pump asks for S_PRIME in ARMED, whatever the height its context holds; a RUNNING one asks for its
height's speed while the show runs. -/
theorem test_jet_request :
    ∀ c ∈ [(ShowState.armed, PumpState.priming, 450), (.running, .running, 780)],
      let s := setInput .level { InputRecord.start with health := .ready } (withPump 0 c.2.1 0 (instantAt c.1 []))
      let t := after (exec .controlInstant { s with
        ctx := { s.ctx with jets := Vector.replicate 12 (Context.rest 2000 0#32) }
        config := { s.config with
          sPrime := 450, jets := s.config.jets.map fun c => { c with curve := curve5, hMax := 2400 } } })
      t.jets.pumps[0].sReq = c.2.2 := by decide +kernel

/-- Winds 119, 120, 159 and 160 around the defaults W_HIGH and W_TRIP, the resume timers one short and at their ends, the
causes present and not, the level input READY and not. -/
theorem test_witness_WindAndLevelPark :
    ∀ w ∈ [119, 120, 159, 160], ∀ n ∈ [29999, 30000, 59999, 60000], ∀ b ∈ [true, false],
      let s := { instantAt .running [] with
        sensors := { up.sensors with
          bins := Vector.replicate 10 w
          inputs := { up.sensors.inputs with level := { InputRecord.start with health := if b then .ready else .failed } } }
        jets := { (inShow .running up).jets with
          causes := { (inShow .running up).jets.causes with wind := b, level := b }, windResume := some n, levelResume := some n } }
      s.phase = .running ∧ 0 ≤ ltDiff s.ltu.lt s.ltu.nextControl ∧ s.cues.entries = [] ∧ s.flash.slotFreed = false ∧
      s.flash.heldNow = [] ∧ s.ctl.state ≠ .arming ∧ s.ctl.state ≠ .ending ∧ s.ctl.state ≠ .idle ∧
      max (heldWind s) (peerWind s.config.windGroup s.peers) = w ∧ s.config.wHigh = 120 ∧ s.config.wTrip = 160 ∧
      s.jets.windResume.getD 0 = n ∧ s.jets.causes.wind = b ∧ s.jets.causes.level = b ∧
      (s.sensors.inputs.level.health = .ready ↔ b = true) := by decide +kernel

/-- A due mark set and clear, the transmitter busy and IDLE; a frame held back and none. -/
theorem test_witness_LampsFollowContexts :
    ∀ b ∈ [true, false], ∀ x ∈ [none, some []],
      let s := { instantAt .running [] with lamp := { up.lamp with due := b, sending := x, heldBack := b } }
      s.phase = .running ∧ 0 ≤ ltDiff s.ltu.lt s.ltu.nextControl ∧ s.cues.entries = [] ∧ s.flash.slotFreed = false ∧
      s.flash.heldNow = [] ∧ s.ctl.state ≠ .arming ∧ s.ctl.state ≠ .ending ∧ s.ctl.state ≠ .idle ∧ s.lamp.due = b ∧
      s.lamp.sending = x ∧ s.lamp.heldBack = b := by decide

/-- At the fade end, one before it, and one before it with END set; with a pump RUNNING and with none enabled. -/
theorem test_witness_EndingCompletes :
    ∀ c ∈ [((0 : Nat), false), (1, false), (1, true)], ∀ x ∈ [PumpState.running, .disabled],
      let e := 100320#32 + BitVec.ofNat 32 c.1
      let s := withPump 2 x 0 { instantAt .ending [] with
        ctl := { (instantAt .ending []).ctl with fadeEnd := some e }
        jets := { up.jets with causes := { up.jets.causes with ending := c.2 } } }
      s.phase = .running ∧ 0 ≤ ltDiff s.ltu.lt s.ltu.nextControl ∧ s.ctl.state = .ending ∧ s.ctl.fadeEnd = some e ∧
      s.flash.slotFreed = false ∧ s.flash.heldNow = [] ∧
      (0 ≤ ltDiff s.ltu.lt e ∨ s.jets.causes.ending = true ↔ c ≠ (1, false)) ∧ s.config.autoJoin = false ∧
      0 < s.config.runDown ∧ s.jets.pumps[2].state = x ∧ s.jets.pumps[0].state = .disabled := by decide +kernel

/-- A peer that reports a show RUNNING at its start LT, LOCKED. -/
def votingPeer (n show_ : Nat) (start : LineTime) : PeerRecord :=
  { peer n with syncGroup := 0, showState := some .running, clockState := some .locked, showNumber := some show_,
                startLt := start }

/-- Two votes for each of two pairs; one vote; the flag clear. -/
theorem test_witness_QuorumJoins :
    let s := { up with
      ltu := { up.ltu with lt := 960#32, nextControl := 960#32, clock := .locked }, config := { up.config with autoJoin := true }
      peers := [votingPeer 5 3 7#32, votingPeer 6 4 8#32, votingPeer 7 4 8#32, votingPeer 9 3 7#32] }
    s.phase = .running ∧ 0 ≤ ltDiff s.ltu.lt s.ltu.nextControl ∧ s.ctl.state = .idle ∧ NoShow s ∧ PeersHeld s ∧
    s.flash.queue = [] ∧ s.flash.portBusy = false ∧ (∀ i : Fin 16, s.flash.slots[i] = .free) ∧ s.flash.slotFreed = false ∧
    s.flash.heldNow = [] ∧ s.config.autoJoin = true ∧ s.ltu.clock = .locked ∧ s.ctl.join = none ∧
    (s.peers.filter fun p => p.showNumber = some 3 ∧ p.startLt = 7#32).length = 2 ∧
    (s.peers.filter fun p => p.showNumber = some 4 ∧ p.startLt = 8#32).length = 2 ∧ up.config.autoJoin = false := by
  unfold NoShow PeersHeld; decide +kernel

theorem test_witness_SilentPeerIsRemoved :
    let p := { peer 9 with age := 20001 }
    let s := { up with peers := [peer 5, p, peer 12] }
    PeersHeld s ∧ p ∈ s.peers ∧ p.age = 20001 ∧ (peer 9).station = p.station ∧ (peer 9).age = 0 := by
  unfold PeersHeld; decide

/-- Jet 11's stagger at 5,500 ms; a prime timer at T_PRIME with the pressure input NOT_READY, READY at P_MIN, and READY one
below it; a run-down passed. -/
theorem test_witness_PumpTimersEnd :
    (let s := { inShow .armed (withPump 11 .parked 0 up) with
       jets := { (inShow .armed (withPump 11 .parked 0 up)).jets with primeReady := some 5500 } }
     s.jets.pumps[11].state = .parked ∧ runPermit s = true ∧ noCause s = true ∧ s.jets.primeReady = some 5500 ∧
     500 * 11 ≤ 5500) ∧
    (∀ c ∈ [(Health.notReady, 0), (.ready, 50), (.ready, 49)],
      let r : InputRecord := { InputRecord.start with health := c.1, scaled := c.2 }
      let s := setInput .pressA r (inShow .running (setPump 2 { Pump.start .priming with primeTimer := 4000 } up))
      s.jets.pumps[2].state = .priming ∧ s.config.tPrime ≤ s.jets.pumps[2].primeTimer ∧ noCause s = true ∧
      healthOf (pressureInput (manifoldOf 2)) s = c.1 ∧
      (s.sensors.inputs.get (pressureInput (manifoldOf 2))).scaled = c.2 ∧ (s.config.pMin ≤ c.2 ↔ c.2 = 50)) ∧
    let s := setPump 2 { Pump.start .parking with runDownTimer := 3000 } up
    s.jets.pumps[2].state = .parking ∧ s.config.runDown ≤ s.jets.pumps[2].runDownTimer := by decide

/-- Manifold A dry with a RUNNING pump of A, a RUNNING pump of B and a PARKED pump. -/
theorem test_witness_PumpTimersEnd_dry :
    let s := { withPump 5 .running 500 (withPump 6 .running 500 (withPump 0 .parked 0 up)) with
      sensors := { up.sensors with dryA := some 2000 } }
    dryTimer .a s = some 2000 ∧ manifoldOf 5 = .a ∧ manifoldOf 6 = .b ∧ s.jets.pumps[5].state = .running ∧
    s.jets.pumps[6].state = .running ∧ s.jets.pumps[0].state = .parked := by decide

/-- The wind input READY, its sample due, from a filtered wind of 40, 143 and 157 at raw values that scale to 150. -/
theorem test_witness_WindFilterMoves :
    ∀ f ∈ [40, 143, 157],
      let r : InputRecord := { InputRecord.start with health := .ready }
      let s := setInput .wind r { up with
        sensors := { up.sensors with filtered := f, due := ⟨true, true, true, true⟩ } }
      SensorsHeld s ∧ s.phase = .running ∧ s.sensors.due.wind = true ∧ s.sensors.inputs.wind.health = .ready ∧
      (sampledRecord 600 s.config.scaling[0] 1024#12 s.sensors.inputs.wind).health = .ready ∧
      (sampledRecord 600 s.config.scaling[0] 1024#12 s.sensors.inputs.wind).scaled = 150 := by
  unfold SensorsHeld inputHeld; decide +kernel

/-- Every health, at run counts 8 and 9, with a bad and a good raw value; the warm-up over with an input NOT_READY at bad
runs 9 and 10 and one READY; a second boundary due. -/
theorem test_witness_SensorTimes :
    (∀ h ∈ [Health.notReady, .ready, .failed], ∀ n ∈ [8, 9],
      let r : InputRecord := { InputRecord.start with health := h, bad := n, good := n }
      let s := setInput .level r { up with sensors := { up.sensors with due := ⟨true, true, true, true⟩ } }
      s.phase = .running ∧ s.sensors.due.get .level = true ∧ (s.sensors.inputs.get .level).health = h ∧
      (1#12 : BitVec 12) ≠ 0#12 ∧ (1#12 : BitVec 12) ≠ 4095#12) ∧
    ∀ n ∈ [9, 10],
      let s := setInput .wind { InputRecord.start with bad := n } (setInput .level { InputRecord.start with health := .ready }
        { up with sensors := { up.sensors with warmUp := some 0, secondDue := true } })
      s.sensors.warmUp = some 0 ∧ s.sensors.secondDue = true ∧ healthOf .wind s = .notReady ∧
      (s.sensors.inputs.get .wind).bad = n ∧ healthOf .level s = .ready := by decide

/-- A sample due, LEVEL_LOW clear and set, the timers at and one short of their ends, of raw values that scale to 49, 50, 54
and 55 around L_LOW and L_LOW + L_HYST; a manifold with a pump RUNNING at 300 and at 299. -/
theorem test_witness_LevelAndPressureJudged :
    (∀ c ∈ [((201 : Nat), 49), (205, 50), (224, 54), (226, 55)], ∀ b ∈ [true, false],
      let s := setInput .level { InputRecord.start with health := .ready }
        { up with sensors := { up.sensors with
            due := ⟨true, true, true, true⟩, levelLow := b, lowTimer := some 2000, highTimer := some 59999 } }
      s.phase = .running ∧ s.sensors.due.level = true ∧ s.sensors.levelLow = b ∧ s.config.lLow = 50 ∧
      s.config.lLow + s.config.lHyst = 55 ∧
      (after (exec (.sensorSample .level (BitVec.ofNat 12 c.1)) s)).sensors.inputs.level.scaled = c.2 ∧
      (after (exec (.sensorSample .level (BitVec.ofNat 12 c.1)) s)).sensors.inputs.level.health = .ready) ∧
    ∀ v ∈ [299, 300],
      let s := setInput .pressA { InputRecord.start with health := .ready }
        { withPump 5 .running v up with sensors := { up.sensors with due := ⟨true, true, true, true⟩, dryA := some 7 } }
      s.phase = .running ∧ s.sensors.due.get (pressureInput .a) = true ∧ s.jets.pumps[5].state = .running ∧
      s.jets.pumps[5].sOut = v ∧ healthOf (pressureInput .a) s = .ready := by decide +kernel

theorem test_witness_EstopEntersSafe :
    ∀ b ∈ [true, false], ∀ x ∈ [true, false],
      let s := marked { up with locks := { up.locks with estopTrip := b, estop := x } }
      s.phase = .running ∧ s.locks.due[0] = true ∧ s.locks.estopTrip = b ∧ s.locks.estop = x := by decide

/-- A following and a latching AUX, ASSERTED and not, with and without its trip. -/
theorem test_witness_TripsPark_aux :
    ∀ b ∈ [true, false], ∀ x ∈ [true, false], ∀ m ∈ [0, 2],
      let s := marked { up with
        locks := { up.locks with aux := x, auxTrip := b }, config := { up.config with latching := BitVec.ofNat 14 m } }
      s.phase = .running ∧ s.locks.due[1] = true ∧ s.locks.aux = x ∧ s.locks.auxTrip = b ∧
      (s.config.latching.getLsbD 1 = true ↔ m = 2) := by decide +kernel

/-- A drive input of a DISABLED pump and of a RUNNING one, ASSERTED and not, with and without its trip. -/
theorem test_witness_TripsPark_drive :
    ∀ b ∈ [true, false], ∀ x ∈ [true, false],
      let s := marked { withPump 11 .running 300 up with
        locks := { up.locks with drive := up.locks.drive.set 11 x, driveTrips := up.locks.driveTrips.set 11 b } }
      s.phase = .running ∧ s.jets.pumps[11].state ≠ .disabled ∧ s.locks.due[driveInput 11] = true ∧
      s.locks.drive[11] = x ∧ s.locks.driveTrips[11] = b ∧ s.jets.pumps[0].state = .disabled := by decide +kernel

/-- The timer at 5 ms on an entry in LOADING, discarded and not. -/
theorem test_witness_ReadGoesOn :
    ∀ b ∈ [true, false],
      let e := { entryOf 7 .audio (some .audio) .loading with discard := b }
      let s := reading e up
      FlashHeld s ∧ e ∈ s.flash.queue ∧ e.state = .loading ∧ s.flash.timer = some 5 ∧ 5 ≤ 5 ∧ s.flash.queue = [e] ∧
      s.flash.audio.page = none ∧ s.ctl.state ≠ .arming ∧ s.flash.audio.pendingDemand = none ∧
      s.flash.cue.pendingDemand = none ∧ s.flash.armDemand = none ∧ s.flash.indexDemands = [] := by
  unfold FlashHeld; decide +kernel

/-- The last step of ARMING, the three pages after 80,001 held, 80,004 and the start page's reads apart. -/
def armingWindow : State :=
  { inShow .arming up with
    ctl := { (inShow .arming up).ctl with armStep := 6, startLt := some 0#32 }
    flash := { up.flash with
      description := some ⟨3, 1, 1, 3001⟩
      audio := { StreamRecord.off with on := true, current := some segment1, page := some ⟨0, 0, 80000⟩ }
      slots := ((up.flash.slots.set 1 (.filled 80001 (some .audio) ⟨[], clean⟩ true)).set 2
        (.filled 80002 (some .audio) ⟨[], clean⟩ true)).set 3 (.filled 80003 (some .audio) ⟨[], clean⟩ true) } }

/-- An AUDIO read in TRANSFER: of the reader's page, of another, and discarded; and in ARMING the fourth page of the window. -/
theorem test_witness_AudioPageRetires :
    (∀ c ∈ [(80000, false), (80001, false), (80001, true)],
      let e := { entryOf c.1 .audio (some .audio) .transfer with discard := c.2 }
      let s := { reading e playingState with flash := { (reading e up).flash with
        audio := playingState.flash.audio, description := some ⟨3, 1, 1, 3001⟩ } }
      s.flash.queue = [e] ∧ e.state = .transfer ∧ e.purpose = .audio ∧ e.stream = some .audio ∧ s.ctl.state = .running ∧
      s.flash.description = some ⟨3, 1, 1, 3001⟩ ∧
      s.flash.audio.pendingDemand = none ∧ s.flash.cue.pendingDemand = none ∧ s.flash.armDemand = none ∧
      s.flash.indexDemands = [] ∧ s.flash.heldNow = [] ∧ (∀ i : Fin 16, (s.flash.slots[i]).isFilled e.page = false) ∧
      findSlot (Slot.isFilledFor .audio 80000) s.flash = none ∧
      ((s.flash.audio.page.map fun p => p.flashPage) = some e.page ↔ c.1 = 80000) ∧ e.discard = c.2) ∧
    let e := entryOf 80004 .audio (some .audio) .transfer
    let s := reading e armingWindow
    s.flash.queue = [e] ∧ s.ctl.state = .arming ∧ s.ctl.armStep = 6 ∧ s.flash.audio.page = some ⟨0, 0, 80000⟩ ∧
    (∀ i : Fin 16, (s.flash.slots[i]).isFilled e.page = false) ∧
    findSlot (Slot.isFilledFor .audio 80000) s.flash = none ∧
    ∀ k ∈ [0, 1, 2, 3], e.page = 80000 + 1 + k ∨ ∃ i : Fin 16, i ≠ e.slot ∧ (s.flash.slots[i]).holds (80000 + 1 + k) = true := by
  decide +kernel

/-- The directory and the header read of ARMING for show 3, and pages with and without a usable entry and an acceptable
header. -/
theorem test_witness_ArmingReadsRetire :
    (∀ x ∈ [Purpose.directory, .header],
      let e := entryOf 1 x none .transfer
      let s := reading e (inShow .arming up)
      s.ctl.state = .arming ∧ s.ctl.number = some 3 ∧ s.flash.queue = [e] ∧ e.state = .transfer ∧ e.stream = none ∧
      e.discard = false ∧ s.flash.portBusy = true ∧ (∀ i : Fin 16, i ≠ e.slot → s.flash.slots[i] = .free) ∧
      s.flash.audio = StreamRecord.off ∧ s.flash.cue = StreamRecord.off ∧ s.flash.cache = [] ∧ s.flash.lookups = [] ∧
      s.flash.indexDemands = [] ∧ s.flash.armDemand = none ∧ s.flash.heldNow = []) ∧
    (let b := List.replicate 24 0#8 ++ bytes24 3000 ++ bytes8 1
     bitAt b 27 0 = true ∧ 2 ≤ field24 b 24 ∧ field24 b 24 ≤ 262143) ∧
    bitAt blankPage.toList 27 0 = false ∧ field16 blankPage.toList 0 ≠ 0x5654 ∧
    let body := bytes16 0x5654 ++ bytes8 3 ++ bytes8 1 ++ bytes16 1800 ++ bytes8 15 ++ bytes8 0 ++ bytes24 262129 ++
      List.replicate 19 0#8
    let b := body ++ crcBytes body
    field16 b 0 = 0x5654 ∧ byteAt b 2 = 3 ∧ byteAt b 3 = 1 ∧ (crc16 (b.take 30)).toNat = field16 b 30 ∧
    field16 b 4 = 1800 ∧ byteAt b 6 = (1800 + 127) / 128 ∧ field24 b 8 + byteAt b 6 - 1 = 262143 := by decide +kernel

/-- An index entry whose audio lies at page 80,000 and whose one cue lies on page 20,000, LAST. -/
def oneEntry : List Byte := bytes24 80000 ++ bytes24 20000 ++ bytes8 0 ++ bytes8 2 ++ bytes16 1 ++ List.replicate 6 0#8

/-- An INDEX read in ARMING and in RUNNING, its page marked and not; entries good and bad; a lookup of the page. -/
theorem test_witness_IndexPageRetires :
    (∀ m ∈ [[], [0]],
      let e := entryOf 3001 .index none .transfer
      let s := reading e { inShow .arming up with
        ctl := { (inShow .arming up).ctl with armStep := 3 }
        flash := { up.flash with description := some ⟨3, 1, 1, 3001⟩, failMarks := m,
                                 lookups := [{ who := .arming, segment := 0, use := .arming }] } }
      s.flash.queue = [e] ∧ e.state = .transfer ∧ e.purpose = .index ∧ e.stream = none ∧ e.discard = false ∧
      e.page = 3001 + 0 ∧ s.flash.portBusy = true ∧ s.flash.audio.pendingDemand = none ∧
      s.flash.cue.pendingDemand = none ∧ s.flash.armDemand = none ∧ s.flash.heldNow = [] ∧ s.flash.indexDemands = [] ∧
      (∀ i : Fin 16, (s.flash.slots[i]).isFilled e.page = false) ∧ s.ctl.state = .arming ∧ s.ctl.armStep = 3 ∧
      s.flash.cache = [] ∧ s.flash.lookups = [{ who := .arming, segment := 0, use := .arming }] ∧
      (∀ i : Fin 16, i ≠ e.slot → s.flash.slots[i] = .free) ∧ s.flash.audio = StreamRecord.off ∧
      s.flash.cue = StreamRecord.off ∧ s.jets.primeReady = none ∧ (0 ∈ s.flash.failMarks ↔ m = [0])) ∧
    entryGood 0 1 (parseIndexEntry oneEntry 0) = true ∧ 1 ≤ (parseIndexEntry oneEntry 0).cueCount ∧
    entryGood 0 1 (parseIndexEntry blankPage.toList 0) = false := by decide +kernel

/-- An INDEX read in RUNNING with another index page held: prefetched, and awaited by a lookup; its page marked and not. -/
theorem test_witness_IndexPageRetires_running :
    ∀ ls ∈ [[], [{ who := Looker.stream .audio, segment := 128, use := LookupUse.next }],
        [({ who := .stream .audio, segment := 255, use := .crossing } : Lookup)]], ∀ m ∈ [[], [1]],
      let e := entryOf 3002 .index none .transfer
      let s := reading e { playingState with flash := { playingState.flash with
        slots := up.flash.slots, description := some ⟨3, 300, 3, 3001⟩, cache := [indexOf 128], failMarks := m,
        lookups := ls } }
      s.flash.queue = [e] ∧ e.page = 3001 + 1 ∧ s.ctl.state = .running ∧ s.flash.lookups = ls ∧ s.flash.audio.on = true ∧
      (∀ l ∈ ls, l.who = .stream .audio ∧ l.segment / 128 = 1) ∧ cachedPage 1 s.flash = none ∧
      s.flash.audio.pendingDemand = none ∧ s.flash.cue.pendingDemand = none ∧ s.flash.armDemand = none ∧
      s.flash.heldNow = [] ∧ s.flash.indexDemands = [] ∧ s.flash.portBusy = true ∧
      (∀ i : Fin 16, (s.flash.slots[i]).isFilled e.page = false) ∧ (1 ∈ s.flash.failMarks ↔ m = [1]) := by decide +kernel

/-- A segment of cues on page 20,000. -/
def cueSegment (cues : Nat) : SegmentRecord :=
  { segment := 0, entry := { firstAudio := 80000, firstCuePage := 20000, firstCueRecord := 0, keyPresent := false,
                             last := true, cueCount := cues } }

/-- The segment after it, its cues on a page. -/
def nextSegment (page : Nat) : SegmentRecord :=
  { segment := 1, entry := { (cueSegment 1).entry with firstCuePage := page } }

/-- RUNNING with the CUE reader on its page, the record at the read point of a kind, the segment of some cues. -/
def cueState (kind cues : Nat) (next : Option SegmentRecord) : State :=
  { playingState with flash := { playingState.flash with
      description := some ⟨3, 3, 1, 3001⟩, cache := [indexOf 3]
      slots := playingState.flash.slots.set 1 (.inUse 20000 (some .cue) ⟨jetRecord 960 kind 1 0 800, clean⟩ false)
      cue := { StreamRecord.off with
        on := true, current := some (cueSegment cues), page := some ⟨0, 0, 20000⟩, next := next, stopped := next = none } } }

/-- A CUE read of the reader's page and of another, discarded and not, its first and its second failure; no further segment, a
next one on another page and one on the lost page, with the index page held; and one with it not held. -/
theorem test_witness_CuePageRetires :
    ∀ c ∈ [(20000, false), (20001, false), (20001, true)], ∀ r ∈ [true, false],
    ∀ n ∈ [none, some (nextSegment 20000), some (nextSegment 20001)],
      let e := { entryOf c.1 .cue (some .cue) .transfer with discard := c.2 }
      let at_ := cueState 1 2 n
      let s := { at_ with flash := { (reading e up).flash with
        description := some ⟨3, 3, 1, 3001⟩, cache := [indexOf 3], cue := at_.flash.cue, reader := { at_.flash.reader with retry := r } } }
      s.ctl.state = .running ∧ s.flash.queue = [e] ∧ e.state = .transfer ∧ e.purpose = .cue ∧ e.stream = some .cue ∧
      s.flash.portBusy = true ∧ s.flash.cue.on = true ∧ s.flash.reader.catchUp = none ∧
      s.flash.audio.pendingDemand = none ∧ s.flash.cue.pendingDemand = none ∧ s.flash.armDemand = none ∧
      s.flash.heldNow = [] ∧ s.flash.indexDemands = [] ∧ s.flash.lookups = [] ∧ IndexSound ⟨3, 3, 1, 3001⟩ s ∧
      IndexUnfilled ⟨3, 3, 1, 3001⟩ s ∧ (cachedPage 0 s.flash).isSome = true ∧
      (∀ i : Fin 16, (s.flash.slots[i]).holds e.page = false) ∧
      findSlot (Slot.isFilledFor .cue 20000) s.flash = none ∧
      (∀ i : Fin 16, (s.flash.slots[i]).holds 20001 = false) ∧
      s.flash.cue.page = some ⟨0, 0, 20000⟩ ∧ s.flash.cue.current = some (cueSegment 2) ∧ s.flash.cue.next = n ∧
      s.flash.reader.retry = r ∧ s.flash.cue.stopped = decide (n = none) ∧
      IndexSound ⟨3, 3, 1, 3001⟩ { s with flash := { s.flash with cache := [] } } := by
  unfold IndexSound IndexUnfilled; decide +kernel

/-- A record of kind JET, and one of unknown kind 9, the last of its segment and not: with no next segment, stopped and not,
the index page held and not, with one that begins in the page and one on another; then a run
that goes on past record 127. -/
theorem test_witness_TrackCueJoinsQueue :
    ∀ k ∈ [1, 9], ∀ b ∈ [true, false], ∀ h ∈ [[indexOf 3], []],
      ∀ c ∈ [(2, none), (1, none), (1, some (nextSegment 20000)), (1, some (nextSegment 20001))],
      let s := { cueState k c.1 c.2 with flash := { (cueState k c.1 c.2).flash with
        cache := h, cue := { (cueState k c.1 c.2).flash.cue with stopped := b } } }
      s.flash.description = some ⟨3, 3, 1, 3001⟩ ∧ IndexSound ⟨3, 3, 1, 3001⟩ s ∧ IndexUnfilled ⟨3, 3, 1, 3001⟩ s ∧
      (∀ l ∈ s.flash.lookups, l.segment < 3) ∧ s.flash.cue.on = true ∧ pageGood clean = true ∧
      (∀ i : Fin 16, (s.flash.slots[i]).holds 20001 = false) ∧ lookupWaits .cue s.flash = false ∧ 0 + 1 < 3 ∧
      ((cachedPage 0 s.flash).isSome = true ↔ h ≠ []) ∧ 1 ≤ ((indexOf 3).entryOf 1).cueCount ∧
      s.ctl.state = .running ∧ s.ctl.startLt = some 0#32 ∧ s.flash.reader.catchUp = none ∧
      recordAtReadPoint s.flash = some (cueSegment c.1, jetRecord 960 k 1 0 800) ∧
      s.flash.cue.current = some (cueSegment c.1) ∧ s.flash.cue.page = some ⟨0, 0, 20000⟩ ∧ s.cues.entries.length < 48 ∧
      (s.cues.entries.filter fun e => e.source == .track).length < 40 ∧ s.flash.slotFreed = false ∧ s.flash.heldNow = [] ∧
      0 ≤ ltDiff (s.ltu.lt + 96000#32) (0#32 + BitVec.ofNat 32 (field32 (jetRecord 960 k 1 0 800) 0)) ∧
      s.flash.reader.lostPage = none ∧
      (s.flash.reader.readPoint + 1 < c.1 ↔ c.1 = 2) ∧ (decodeKind (jetRecord 960 k 1 0 800)).isSome = (k == 1) := by
  unfold IndexSound IndexUnfilled; decide +kernel

theorem test_witness_TrackCueJoinsQueue_run :
    let s := { cueState 1 200 none with flash := { (cueState 1 200 none).flash with
      slots := up.flash.slots.set 1
        (.inUse 20000 (some .cue) ⟨List.replicate (16 * 127) 0#8 ++ jetRecord 960 1 1 0 800, clean⟩ false)
      reader := { CueReader.cleared with readPoint := 127 } } }
    recordAtReadPoint s.flash = some (cueSegment 200, jetRecord 960 1 1 0 800) ∧
    s.flash.reader.readPoint + 1 < (cueSegment 200).entry.cueCount ∧
    ((cueSegment 200).entry.firstCueRecord + (s.flash.reader.readPoint + 1)) / 128 = 1 ∧ s.flash.cue.stopped = true := by
  decide +kernel

/-- CUE page 20,000 of a KEY_PRESENT segment of three records in TRANSFER, the reader in catch-up. -/
def catchUpState (q : Int) : State :=
  let at_ := cueState 1 3 none
  let e := entryOf 20000 .cue (some .cue) .transfer
  let c : SegmentRecord := { cueSegment 3 with entry := { (cueSegment 3).entry with keyPresent := true } }
  { at_ with flash := { (reading e up).flash with
      description := some ⟨3, 3, 1, 3001⟩, cache := [indexOf 3], cue := { at_.flash.cue with current := some c }
      reader := { CueReader.cleared with catchUp := some q } } }

/-- Its records: a KEY JET cue at 100, a JET cue at 100 without KEY, and an END at 200. -/
def catchUpPage : Vector Byte pageBytes :=
  page (jetRecord 100 0x81 1 0 800 ++ jetRecord 100 1 1 0 900 ++ jetRecord 200 5 0 100 0) (by decide +kernel)

/-- q at 0, where catch-up ends at once; at 100, where it ends at the record without KEY; and at 200, where the END ends it. -/
theorem test_witness_CatchUpAppliesKeys :
    (∀ q ∈ [(0 : Int), 100, 200],
      let s := catchUpState q
      let e := entryOf 20000 .cue (some .cue) .transfer
      s.ctl.state = .running ∧ s.flash.queue = [e] ∧ s.flash.portBusy = true ∧ s.flash.cue.on = true ∧
      s.flash.description = some ⟨3, 3, 1, 3001⟩ ∧ s.flash.audio.pendingDemand = none ∧
      s.flash.cue.pendingDemand = none ∧ s.flash.armDemand = none ∧ s.flash.heldNow = [] ∧ s.flash.indexDemands = [] ∧
      s.flash.lookups = [] ∧ (∀ i : Fin 16, (s.flash.slots[i]).holds e.page = false) ∧
      s.flash.reader = { CueReader.cleared with catchUp := some q } ∧ s.flash.cue.page = some ⟨0, 0, e.page⟩ ∧
      s.flash.cue.next = none ∧ s.flash.cue.stopped = true ∧
      s.flash.cue.current.map (fun c => (c.segment, c.entry.keyPresent, c.entry.firstCueRecord, c.entry.cueCount)) =
        some (0, true, 0, 3)) ∧
    (let record := fun n : Nat => (catchUpPage.toList.drop (16 * n)).take 16
     (field32 (record 0) 0 = 100 ∧ bitAt (record 0) 4 7 = true ∧ decodeKind (record 0) = some (.jet 800)) ∧
     (field32 (record 1) 0 = 100 ∧ bitAt (record 1) 4 7 = false ∧ decodeKind (record 1) = some (.jet 900)) ∧
     field32 (record 2) 0 = 200 ∧ decodeKind (record 2) = some .ending) := by decide +kernel

/-- 6.4: of the two, the KEY cue alone sets jet 0, with a ramp of 200 units. -/
theorem test_catch_up :
    let t := after (exec (.retirement catchUpPage clean) (catchUpState 100))
    t.ctx.jets[0].track = { v0 := 0, v1 := 800, t0 := t.ltu.lt, t1 := t.ltu.lt + 96000#32 } ∧
    t.flash.reader.catchUp = none ∧ t.flash.reader.readPoint = 1 := by decide +kernel

/-- ARMED with the start LT 0 at an LT, in a show of one segment, its index page held. -/
def armedAt (q : Nat) : State :=
  { inShow .armed up with
    ctl := { (inShow .armed up).ctl with startLt := some 0#32 }
    ltu := { up.ltu with lt := BitVec.ofNat 32 q }
    flash := { up.flash with description := some ⟨3, 1, 1, 3001⟩, cache := [indexOf 1] } }

/-- A START in ARMING, and in ARMED with each q; and START_REACHED; q at 0, 479, 480, 47,999 and 48,000. -/
theorem test_witness_StartsAreTaken :
    (let s := showHeard .arming 2 1 0
     NothingWaits s ∧ FrameEnds 3 30 (showPayload 2 1 0) s ∧ byteAt (showPayload 2 1 0) 0 = 2 ∧
     (showPayload 2 1 0).getD 2 0#8 &&& s.config.cueGroups ≠ 0#8 ∧
     s.ctl.number = some (byteAt (showPayload 2 1 0) 1) ∧ s.flash.slotFreed = false ∧ s.flash.heldNow = [] ∧
     s.ctl.state = .arming) ∧
    ∀ q ∈ [0, 479, 480, 47999, 48000],
      (let s := hears 3 (showPayload 2 0 0) (armedAt q)
       NothingWaits s ∧ FrameEnds 3 30 (showPayload 2 0 0) s ∧ s.ctl.state = .armed ∧ s.ctl.number = some 3 ∧
       ltDiff s.ltu.lt (BitVec.ofNat 32 (field32 (showPayload 2 0 0) 3)) = (q : Nat)) ∧
      (armedAt q).ctl.state = .armed ∧ (armedAt q).ctl.startLt = some 0#32 ∧
      (armedAt q).flash.description = some ⟨3, 1, 1, 3001⟩ ∧ (armedAt q).flash.slotFreed = false ∧
      (armedAt q).flash.heldNow = [] ∧ IndexSound ⟨3, 1, 1, 3001⟩ (armedAt q) ∧ DelayHeld (armedAt q) ∧
      (cachedPage 0 (armedAt q).flash).isSome = true ∧ (∀ i : Fin 16, (armedAt q).flash.slots[i] = .free) ∧
      ltDiff (armedAt q).ltu.lt 0#32 = (q : Nat) := by
  unfold FrameEnds IdleComes NothingWaits IndexSound DelayHeld; decide +kernel

/-- In State.reset and in up each condition of the statement fails, so that each clause has a state. -/
theorem test_witness_UnmetCommandsLeaveState :
    up.phase ≠ .inReset ∧ { up.line with view := .idle }.view = .idle ∧ isDeferring up.line.tx = false ∧
    isSending up.line.tx = false ∧ up.ltu.beaconTimer ≠ some 0 ∧ up.ltu.correction = 0 ∧ up.ctl.state ≠ .armed ∧
    up.lamp.sending = none ∧ (∀ p ∈ [peer 9], p.station ≠ 9 ∨ p.age < 20001) ∧ up.jets.pumps[0].state ≠ .parked ∧
    up.jets.pumps[0].state ≠ .priming ∧ up.jets.pumps[0].state ≠ .parking ∧ up.sensors.due.get .wind = false ∧
    up.sensors.warmUp ≠ some 0 ∧ up.sensors.secondDue = false ∧ dryTimer .a up = none ∧ up.locks.due[0] = false ∧
    up.locks.due[1] = false ∧ up.locks.due[driveInput 0] = false ∧ up.flash.queue = [] ∧
    up.ctl.state ≠ .running ∧ up.line.rx.assembling = false ∧
    (heard [] up).line.rx.inByte = false := by decide

/-- SAFE, left by the CLEAR of chapter 11's example. -/
theorem test_witness_SafeLeftOnlyByClear :
    let s := hears 4 [0#8, 1#8, 0#8] (pressed up)
    EstopHeld s ∧ EarlyHeld s ∧ s.ctl.state = .safe ∧ s.phase = .running ∧
    (∀ j : Jet, runPin s j = false ∧ valvePin s j = false) ∧ s.audio.left = 0#16 ∧ s.audio.right = 0#16 ∧
    (∀ i : Jet, s.config.lights[i].enable = true → s.lamp.slots[i] = safeColour s) ∧
    (after (exec .lineIdleDetection s)).ctl.state ≠ .safe := by
  unfold EstopHeld EarlyHeld; decide +kernel

/-- A RUNNING part with a read in hand, a pump RUNNING at 300 and a falling edge that comes next. -/
def invariantState : State :=
  { reading (entryOf 7 .audio (some .audio) .loading) (inShow .running (withPump 2 .running 300 up)) with
    pending := [.lineBusy], lamp := { up.lamp with speeds := up.lamp.speeds.set 2 300 } }

/-- The state a falling edge leaves. -/
def invariantNext : State := after (step invariantState)

theorem test_witness_step : step invariantState = .next invariantNext := by rfl

theorem test_witness_FlashInvariant : FlashHeld invariantState ∧ StreamsHeld invariantState := by
  unfold FlashHeld StreamsHeld; decide +kernel

theorem test_witness_RequestInvariant :
    OwnedHeld invariantState ∧ RequestsHeld (reading (entryOf 1 .directory none .transfer) (inShow .arming up)) ∧
    DelayHeld invariantState := by
  unfold OwnedHeld RequestsHeld DelayHeld; decide +kernel

theorem test_witness_PumpInvariant :
    PowerHeld invariantState ∧ StoppedHeld invariantState ∧ ParkHeld invariantState := by
  unfold PowerHeld StoppedHeld ParkHeld; decide +kernel

theorem test_witness_SafeInvariant :
    let s := { after (exec .estopAsserted (marked up)) with pending := [.lineBusy] }
    s.ctl.state = .safe ∧ s.phase = .running ∧ (∀ j : Jet, runPin s j = false ∧ valvePin s j = false) ∧
    s.audio.left = 0#16 ∧ s.audio.right = 0#16 ∧
    (∀ i : Jet, s.config.lights[i].enable = true → s.lamp.slots[i] = safeColour s) ∧ EstopHeld s ∧ EarlyHeld s := by
  unfold EstopHeld EarlyHeld; decide +kernel

theorem test_witness_BoundLightInvariant : LampHeld invariantState ∧ EarlyHeld invariantState := by
  unfold LampHeld EarlyHeld; decide +kernel

theorem test_witness_LineAndTableInvariant :
    LineTimeHeld invariantState ∧ SilentHeld invariantState ∧ PeersHeld invariantState ∧ ResetHeld invariantState ∧
    CuesHeld invariantState ∧ SensorsHeld invariantState ∧ CountersHeld invariantState ∧ PumpMaskHeld invariantState := by
  unfold LineTimeHeld SilentHeld PeersHeld ResetHeld CuesHeld SensorsHeld inputHeld CountersHeld PumpMaskHeld
  decide +kernel

theorem test_witness_LineAndTableInvariant_port : LinePortHeld invariantState :=
  ⟨fun _ => by decide, fun x => ⟨fun h => (by cases x <;> cases h), fun h => (by obtain ⟨_, _, h⟩ := h; cases h)⟩,
    by decide, by decide, by decide, by decide, by decide⟩

theorem test_witness_IdleInvariant : IdleHeld up :=
  ⟨fun h => absurd rfl h, fun _ => ⟨rfl, rfl, rfl, rfl, rfl, rfl, rfl, rfl⟩,
    fun x _ => by cases x <;> exact ⟨rfl, rfl, rfl, fun l hl => by cases hl⟩⟩

end Sys2Proof.Tests
end

/-! The frame layout of 1.2, the pick of R13 and the attempt it starts (R14), and the proof about DEFERRAL_EXPIRY. -/

namespace Sys2Proof.Machine

/-! ### Fields behind a prefix -/

/-- A byte behind a prefix. -/
theorem byteAt_append_length_add (pre bytes : List Byte) (i : Nat) :
    byteAt (pre ++ bytes) (pre.length + i) = byteAt bytes i := by
  simp [byteAt, List.getElem?_append_right]

/-- A 2-byte field directly behind a prefix. -/
theorem field16_append_length (pre bytes : List Byte) : field16 (pre ++ bytes) pre.length = field16 bytes 0 := by
  have high : byteAt (pre ++ bytes) pre.length = byteAt bytes 0 := byteAt_append_length_add pre bytes 0
  have low : byteAt (pre ++ bytes) (pre.length + 1) = byteAt bytes 1 := byteAt_append_length_add pre bytes 1
  rw [field16, field16, high, low]

/-- The CRC-16 read back from the two bytes it is sent as (R5). -/
theorem field16_crcBytes (body : List Byte) : field16 (crcBytes body) 0 = (crc16 body).toNat := by
  simpa [crcBytes, Nat.mod_eq_of_lt (crc16 body).isLt] using field16_bytes16 (crc16 body).toNat []

/-! ### The layout of a frame (1.2) -/

/-- The part of a frame its CRC-16 covers: the header behind the start mark, and the payload (1.2, R5). -/
def frameBody (kind station : Nat) (payload : List Byte) : List Byte :=
  bytes8 kind ++ bytes8 station ++ bytes8 payload.length ++ payload

@[simp] theorem length_frameBody (kind station : Nat) (payload : List Byte) :
    (frameBody kind station payload).length = 3 + payload.length := by
  simp [frameBody]; omega

theorem frameBytes_eq_body (kind station : Nat) (payload : List Byte) :
    frameBytes kind station payload =
      0xA5#8 :: (frameBody kind station payload ++ crcBytes (frameBody kind station payload)) := rfl

theorem frameBytes_eq_payload (kind station : Nat) (payload : List Byte) :
    frameBytes kind station payload =
      0xA5#8 :: BitVec.ofNat 8 kind :: BitVec.ofNat 8 station :: BitVec.ofNat 8 payload.length ::
        (payload ++ crcBytes (frameBody kind station payload)) := rfl

/-- The start mark and the header bytes, as numbers; each is sent modulo 256. -/
theorem frameBytes_header (kind station : Nat) (payload : List Byte) :
    byteAt (frameBytes kind station payload) 0 = 0xA5 ∧
    byteAt (frameBytes kind station payload) 1 = kind % 256 ∧
    byteAt (frameBytes kind station payload) 2 = station % 256 ∧
    byteAt (frameBytes kind station payload) 3 = payload.length % 256 := by
  simp [frameBytes_eq_payload, byteAt]

/-- The payload stands behind the four bytes of start mark and header. -/
theorem frameBytes_payload (kind station : Nat) (payload : List Byte) :
    ((frameBytes kind station payload).drop 4).take payload.length = payload := by
  simp [frameBytes_eq_payload]

/-- The bytes between start mark and CRC-16. -/
theorem frameBytes_body (kind station : Nat) (payload : List Byte) :
    ((frameBytes kind station payload).drop 1).take (3 + payload.length) = frameBody kind station payload := by
  rw [← length_frameBody kind station payload]
  simp [frameBytes_eq_body]

/-- The last two bytes are the CRC-16 over header and payload (R5). -/
theorem field16_frameBytes_crc (kind station : Nat) (payload : List Byte) :
    field16 (frameBytes kind station payload) (4 + payload.length) =
      (crc16 (frameBody kind station payload)).toNat := by
  have place : 4 + payload.length = (0xA5#8 :: frameBody kind station payload).length := by simp; omega
  rw [place, frameBytes_eq_body, ← List.cons_append, field16_append_length, field16_crcBytes]

/-! ### The pick of R13 -/

theorem chosenSlot_beacon {l : LinePort} (hb : l.beacon.use = .waiting) : chosenSlot l = some .beacon :=
  if_pos hb

theorem chosenSlot_status {l : LinePort} (hb : l.beacon.use ≠ .waiting) (hs : l.status.use = .waiting) :
    chosenSlot l = some .status := by
  simp [chosenSlot, hb, hs]

theorem chosenSlot_none {l : LinePort} (hb : l.beacon.use ≠ .waiting) (hs : l.status.use ≠ .waiting) :
    chosenSlot l = none := by
  simp [chosenSlot, hb, hs]

/-! ### The attempt that a count run out starts -/

/-- DEFERRAL_EXPIRY under a running count (R13). -/
theorem exec_deferralExpiry_of_deferring {s : State} {w : Nat} (h : s.line.tx = .deferring w) :
    exec .deferralExpiry s = .next (beginAttempt s) := by
  show execDeferralExpiry s = _
  simp [execDeferralExpiry, h, isDeferring]

/-- The attempt with the BEACON slot's frame; its first four payload bytes are the LT latched at the start (R14). -/
theorem beginAttempt_beacon {s : State} (h : chosenSlot s.line = some .beacon) :
    beginAttempt s = { s with line := { s.line with
      view := .busy, rx := Receiver.cleared false, drawRange := 32
      beacon := { s.line.beacon with use := .sending }
      tx := .sending .beacon s.ltu.lt
        (frameBytes 1 s.station (bytes32 s.ltu.lt.toNat ++ s.line.beacon.payload.drop 4)) } } := by
  simp [beginAttempt, h, onLine, setSlot, slotAt, slotKind, sentPayload, ordinaryRange]

/-- The attempt with the STATUS slot's frame, its payload as it was built. -/
theorem beginAttempt_status {s : State} (h : chosenSlot s.line = some .status) :
    beginAttempt s = { s with line := { s.line with
      view := .busy, rx := Receiver.cleared false, drawRange := 32
      status := { s.line.status with use := .sending }
      tx := .sending .status s.ltu.lt (frameBytes 6 s.station s.line.status.payload) } } := by
  simp [beginAttempt, h, onLine, setSlot, slotAt, slotKind, sentPayload, ordinaryRange]

/-- No slot picked: no attempt, and the transmitter is QUIET. -/
theorem beginAttempt_none {s : State} (h : chosenSlot s.line = none) :
    beginAttempt s = { s with line := { s.line with tx := .quiet } } := by
  simp [beginAttempt, h, onLine]

/-- Settles O9, from the pick of R13 with the attempt it starts, and from the layout of a frame. -/
theorem expiryPicksBeaconFirst : Obligations.ExpiryPicksBeaconFirst := by
  unfold Obligations.ExpiryPicksBeaconFirst
  constructor
  · intro s w hcount
    refine ⟨beginAttempt s, exec_deferralExpiry_of_deferring hcount, ?beacon, ?status, ?quiet⟩
    case beacon => exact fun hb => beginAttempt_beacon (chosenSlot_beacon hb)
    case status => exact fun hb hs => beginAttempt_status (chosenSlot_status hb hs)
    case quiet => exact fun hb hs => beginAttempt_none (chosenSlot_none hb hs)
  · intro kind station payload hkind hstation hlength f
    obtain ⟨hmark, hkindByte, hstationByte, hlengthByte⟩ := frameBytes_header kind station payload
    refine ⟨length_frameBytes kind station payload, hmark, ?_, ?_, ?_, frameBytes_payload kind station payload, ?_⟩
    · exact hkindByte.trans (Nat.mod_eq_of_lt hkind)
    · exact hstationByte.trans (Nat.mod_eq_of_lt hstation)
    · exact hlengthByte.trans (Nat.mod_eq_of_lt hlength)
    · show field16 (frameBytes kind station payload) (4 + payload.length) = _
      rw [field16_frameBytes_crc, frameBytes_body]

end Sys2Proof.Machine

/-! The Peer Table under a removal: a sorted table holds one record of a station, so a removal takes out that record alone
(R20, R27). Then the views without the record (R30 to R32), and the beacon that refreshes it (R21). -/

namespace Sys2Proof.Machine

/-! ### One record to a station (R20) -/

theorem nodup_of_sorted {l : List PeerRecord} (h : l.Pairwise fun p q => p.station < q.station) : l.Nodup :=
  h.imp fun hlt heq => Nat.ne_of_lt hlt (congrArg PeerRecord.station heq)

theorem eq_of_station_eq {l : List PeerRecord} (h : l.Pairwise fun p q => p.station < q.station) {p q : PeerRecord}
    (hp : p ∈ l) (hq : q ∈ l) (hpq : p.station = q.station) : p = q := by
  induction l with
  | nil => cases hp
  | cons x rest ih =>
    obtain ⟨above, sorted⟩ := List.pairwise_cons.mp h
    rcases List.mem_cons.mp hp with rfl | pRest <;> rcases List.mem_cons.mp hq with rfl | qRest
    · rfl
    · exact absurd hpq (Nat.ne_of_lt (above q qRest))
    · exact absurd hpq (Nat.ne_of_gt (above p pRest))
    · exact ih sorted pRest qRest

/-! ### The table without a station's record (R27) -/

theorem mem_withoutPeer {n : Nat} {l : List PeerRecord} {q : PeerRecord} :
    q ∈ withoutPeer n l ↔ q ∈ l ∧ q.station ≠ n := by
  simp [withoutPeer]

theorem withoutPeer_of_forall_ne {n : Nat} {l : List PeerRecord} (h : ∀ q ∈ l, q.station ≠ n) : withoutPeer n l = l :=
  List.filter_eq_self.mpr fun q hq => bne_iff_ne.mpr (h q hq)

/-- Of a sorted table only the one record goes: the table is that record and the rest. -/
theorem perm_cons_withoutPeer {l : List PeerRecord} (h : l.Pairwise fun p q => p.station < q.station) {p : PeerRecord}
    (hp : p ∈ l) : l.Perm (p :: withoutPeer p.station l) := by
  have same : withoutPeer p.station l = l.erase p := by
    rw [(nodup_of_sorted h).erase_eq_filter]
    refine List.filter_congr fun q hq => ?_
    have station_iff : q.station = p.station ↔ q = p := ⟨eq_of_station_eq h hq hp, congrArg _⟩
    rw [Bool.eq_iff_iff, bne_iff_ne, bne_iff_ne, Ne, station_iff]
  exact same ▸ List.perm_cons_erase hp

/-! ### The views of a table with one record more (R30 to R32) -/

section Views
variable {l rest : List PeerRecord} {p : PeerRecord}

theorem heardDemand_of_perm_cons (h : l.Perm (p :: rest)) (g : Nat) :
    heardDemand g l = heardDemand g rest + if p.feedGroup = g then p.request else 0 := by
  have moved : heardDemand g l = heardDemand g (p :: rest) := ((h.filter _).map _).sum_nat
  rw [moved]
  by_cases hg : p.feedGroup = g
  · rw [if_pos hg, heardDemand, List.filter_cons, if_pos (beq_iff_eq.mpr hg), List.map_cons, List.sum_cons]
    exact Nat.add_comm _ _
  · rw [if_neg hg, heardDemand, List.filter_cons, if_neg (mt beq_iff_eq.mp hg)]
    rfl

theorem peerWind_of_perm_cons (h : l.Perm (p :: rest)) (g : Nat) :
    peerWind g l = max (peerWind g rest) (if p.windGroup = g then p.windHeld else 0) := by
  have moved : peerWind g l = peerWind g (p :: rest) :=
    ((h.filter _).map _).foldl_eq' (fun x _ y _ z => Nat.max_right_comm z x y) 0
  rw [moved]
  by_cases hg : p.windGroup = g
  · rw [if_pos hg, peerWind, List.filter_cons, if_pos (beq_iff_eq.mpr hg), List.map_cons, List.foldl_cons,
      Nat.max_comm 0, List.foldl_assoc]
    exact Nat.max_comm _ _
  · rw [if_neg hg, peerWind, List.filter_cons, if_neg (mt beq_iff_eq.mp hg)]
    exact (Nat.max_zero _).symm

theorem peerLevelLow_of_perm_cons (h : l.Perm (p :: rest)) (g : Nat) :
    peerLevelLow g l = (peerLevelLow g rest || (p.basinGroup == g && p.levelLow)) := by
  have moved : peerLevelLow g l = peerLevelLow g (p :: rest) := h.any_eq
  rw [moved]
  exact Bool.or_comm _ _

end Views

/-! ### A beacon put in its place (R20, R21) -/

theorem putPeer_of_forall_lt {p : PeerRecord} {l : List PeerRecord} (h : ∀ q ∈ l, p.station < q.station) :
    putPeer p l = p :: l := by
  cases l with
  | nil => rfl
  | cons q rest => exact if_pos (h q List.mem_cons_self)

theorem putPeer_cons_of_eq {p q : PeerRecord} (h : p.station = q.station) (rest : List PeerRecord) :
    putPeer p (q :: rest) = p :: rest := by
  rw [putPeer, if_neg (Nat.not_lt.mpr (Nat.le_of_eq h.symm)), if_pos h]

theorem putPeer_cons_of_gt {p q : PeerRecord} (h : q.station < p.station) (rest : List PeerRecord) :
    putPeer p (q :: rest) = q :: putPeer p rest := by
  rw [putPeer, if_neg (Nat.not_lt_of_gt h), if_neg (Nat.ne_of_gt h)]

/-- A put overwrites the record of its station, so it does not matter whether that was removed before. -/
theorem putPeer_withoutPeer (p : PeerRecord) {l : List PeerRecord} (h : l.Pairwise fun p q => p.station < q.station) :
    putPeer p (withoutPeer p.station l) = putPeer p l := by
  induction l with
  | nil => rfl
  | cons q rest ih =>
    obtain ⟨above, sorted⟩ := List.pairwise_cons.mp h
    rcases Nat.lt_trichotomy p.station q.station with hlt | heq | hgt
    · have absent : ∀ r ∈ q :: rest, r.station ≠ p.station :=
        List.forall_mem_cons.mpr ⟨Nat.ne_of_gt hlt, fun r hr => Nat.ne_of_gt (Nat.lt_trans hlt (above r hr))⟩
      rw [withoutPeer_of_forall_ne absent]
    · have later : ∀ r ∈ rest, p.station < r.station := fun r hr => heq ▸ above r hr
      have dropped : withoutPeer p.station (q :: rest) = withoutPeer p.station rest := by simp [withoutPeer, heq]
      rw [dropped, withoutPeer_of_forall_ne fun r hr => Nat.ne_of_gt (later r hr), putPeer_of_forall_lt later,
        putPeer_cons_of_eq heq]
    · have kept : withoutPeer p.station (q :: rest) = q :: withoutPeer p.station rest := by
        simp [withoutPeer, Nat.ne_of_lt hgt]
      rw [kept, putPeer_cons_of_gt hgt, putPeer_cons_of_gt hgt, ih sorted]

/-- A beacon of a station on record, or of any station while there is room (R20, R21). -/
theorem takeBeacon_of_place {p : PeerRecord} {s : State}
    (h : (∃ q ∈ s.peers, q.station = p.station) ∨ s.peers.length < peerLimit) :
    takeBeacon p s = { s with peers := putPeer p s.peers } :=
  if_pos (by simpa using h)

/-! ### The command (R27) -/

theorem exec_peerRemoval_of_silent {n : Nat} {s : State} {p : PeerRecord} (hp : p ∈ s.peers) (hn : p.station = n)
    (hage : removalAge ≤ p.age) :
    exec (.peerRemoval n) s = .next { s with peers := withoutPeer n s.peers } :=
  if_pos (List.any_eq_true.mpr ⟨p, hp, by simp [hn, hage]⟩)

theorem exec_peerRemoval_of_heard {n : Nat} {s : State} (h : ∀ p ∈ s.peers, p.station = n → p.age < removalAge) :
    exec (.peerRemoval n) s = .next s :=
  if_neg (by simpa using h)

/-- A record just refreshed is the station's only one, so the station is not removed. -/
theorem exec_peerRemoval_of_refreshed {fresh : PeerRecord} {s : State}
    (h : s.peers.Pairwise fun p q => p.station < q.station) (hage : fresh.age = 0) :
    exec (.peerRemoval fresh.station) { s with peers := putPeer fresh s.peers } =
      .next { s with peers := putPeer fresh s.peers } := by
  refine exec_peerRemoval_of_heard fun q hq hstation => ?_
  rw [eq_of_station_eq (putPeer_sorted fresh h) hq (putPeer_mem_self fresh _) hstation, hage]
  decide

/-- Settles O36, from the one record that leaves a sorted table: the views are those of the record and the rest, and a put
of a fresh record overwrites what the removal took out. -/
theorem silentPeerIsRemoved : Obligations.SilentPeerIsRemoved := by
  unfold Obligations.SilentPeerIsRemoved
  rintro s p ⟨room, sorted, -⟩ hp hage
  have oneOut := perm_cons_withoutPeer sorted hp
  have length : (withoutPeer p.station s.peers).length + 1 = s.peers.length := oneOut.length_eq.symm
  refine ⟨{ s with peers := withoutPeer p.station s.peers }, exec_peerRemoval_of_silent hp rfl (Nat.le_of_eq hage.symm), rfl,
    length, ?gone, ?stays, heardDemand_of_perm_cons oneOut, peerWind_of_perm_cons oneOut, peerLevelLow_of_perm_cons oneOut,
    ?beacon⟩
  case gone => exact fun q hq => (mem_withoutPeer.mp hq).2
  case stays => exact fun q hq hne => (List.mem_cons.mp (oneOut.mem_iff.mp hq)).resolve_left hne
  case beacon =>
    intro fresh hstation hfresh
    have before : takeBeacon fresh s = { s with peers := putPeer fresh s.peers } :=
      takeBeacon_of_place (.inl ⟨p, hp, hstation.symm⟩)
    have roomLeft : (withoutPeer p.station s.peers).length < peerLimit := by rw [peerLimit]; omega
    rw [before, takeBeacon_of_place (.inr roomLeft), ← hstation]
    exact ⟨putPeer_withoutPeer fresh sorted, exec_peerRemoval_of_refreshed sorted hfresh⟩

end Sys2Proof.Machine

/-! The wind filter at a sample: a sample of an input that is READY before and after runs the input's mechanism on the new
record (R175 to R177), and the mechanism of the wind is the filter (R178). -/

namespace Sys2Proof.Machine

/-! ### The filter (R178) -/

/-- The filtered wind is never cut off at 0: a fall takes off at most an eighth of it. -/
theorem filterWind_eq (w f : Nat) : (filterWind w f : Int) = f + Int.tdiv ((w : Int) - f) 8 := by
  refine Int.toNat_of_nonneg ?_
  rcases Nat.le_total f w with rising | falling
  · have step : 0 ≤ Int.tdiv ((w : Int) - f) 8 := Int.tdiv_nonneg (by omega) (by decide)
    omega
  · have back : (w : Int) - f = -((f : Int) - w) := by omega
    rw [back, Int.neg_tdiv, Int.tdiv_eq_ediv_of_nonneg (by omega)]
    omega

theorem filterWind_rising {w f : Nat} (h : f ≤ w) : f ≤ filterWind w f ∧ filterWind w f ≤ w := by
  simpa [Nat.min_eq_right h, Nat.max_eq_left h] using filterWind_between w f

theorem filterWind_falling {w f : Nat} (h : w ≤ f) : w ≤ filterWind w f ∧ filterWind w f ≤ f := by
  simpa [Nat.min_eq_left h, Nat.max_eq_right h] using filterWind_between w f

/-- An eighth of a difference of at most 7 is truncated to nothing. -/
theorem filterWind_rest {w f : Nat} (hrise : w ≤ f + 7) (hfall : f ≤ w + 7) : filterWind w f = f := by
  have still : Int.tdiv ((w : Int) - f) 8 = 0 := by
    rw [← Int.natAbs_eq_zero, Int.natAbs_tdiv]
    exact Nat.div_eq_of_lt (by omega)
  have moved := filterWind_eq w f
  rw [still] at moved
  omega

/-! ### A sample (R175 to R177) -/

theorem exec_sensorSample_of_due {i : AnalogInput} {s : State} (raw : BitVec 12) (hphase : s.phase = .running)
    (hdue : s.sensors.due.get i = true) : exec (.sensorSample i raw) s = .next (sample i raw s) :=
  if_pos ⟨beq_iff_eq.mpr hphase, hdue⟩

/-- An input that is READY and stays so latches no fault, and its mechanism is active. -/
theorem sample_of_ready {i : AnalogInput} {raw : BitVec 12} {s : State}
    (hbefore : (s.sensors.inputs.get i).health = .ready)
    (hafter : (sampledRecord (rangeTop i) (scalingOf i s.config) raw (s.sensors.inputs.get i)).health = .ready) :
    sample i raw s =
      mechanism i true
        (setInput i (sampledRecord (rangeTop i) (scalingOf i s.config) raw (s.sensors.inputs.get i)) (spendSample i s)) := by
  simp [sample, hbefore, hafter]

/-- The active wind mechanism changes the filtered wind by the filter, and no input's record. -/
theorem windMechanism_true_sensors (s : State) :
    (windMechanism true s).sensors.inputs = s.sensors.inputs ∧
    (windMechanism true s).sensors.filtered = filterWind s.sensors.inputs.wind.scaled s.sensors.filtered := ⟨rfl, rfl⟩

/-- The sample of a wind input that is READY and stays so: the new record, and the filter toward its scaled value. -/
theorem sample_wind_of_ready {raw : BitVec 12} {s : State} (hbefore : s.sensors.inputs.wind.health = .ready)
    (hafter : (sampledRecord 600 s.config.scaling[0] raw s.sensors.inputs.wind).health = .ready) :
    (sample .wind raw s).sensors.inputs.wind = sampledRecord 600 s.config.scaling[0] raw s.sensors.inputs.wind ∧
    (sample .wind raw s).sensors.filtered =
      filterWind (scaleRaw 600 s.config.scaling[0] raw) s.sensors.filtered := by
  obtain ⟨inputs, filtered⟩ := windMechanism_true_sensors
    (setInput .wind (sampledRecord 600 s.config.scaling[0] raw s.sensors.inputs.wind) (spendSample .wind s))
  rw [sample_of_ready (i := .wind) hbefore hafter]
  exact ⟨congrArg PerInput.wind inputs, filtered⟩

/-- Settles O38, from the filter at the sample's scaled value; both ends of the move lie in 0 to 600, so what lies between
them does. -/
theorem windFilterMoves : Obligations.WindFilterMoves := by
  unfold Obligations.WindFilterMoves
  rintro s raw ⟨-, inRange, -⟩ hphase hdue hbefore hafter
  refine ⟨sample .wind raw s, exec_sensorSample_of_due raw hphase hdue, ?_⟩
  obtain ⟨record, filtered⟩ := sample_wind_of_ready hbefore hafter
  have scaled : (sample .wind raw s).sensors.inputs.wind.scaled = scaleRaw 600 s.config.scaling[0] raw :=
    congrArg InputRecord.scaled record
  have top : scaleRaw 600 s.config.scaling[0] raw ≤ 600 := scaleRaw_le 600 _ raw
  have between := (filterWind_between (scaleRaw 600 s.config.scaling[0] raw) s.sensors.filtered).2
  simp only [scaled, filtered]
  exact ⟨filterWind_eq _ _, Nat.le_trans between (Nat.max_le.mpr ⟨top, inRange⟩), filterWind_rising, filterWind_falling,
    filterWind_rest⟩

end Sys2Proof.Machine
